-- ==== Sys2Proof/Word.lean ====
section
/-! DEFINITION. The words of the block: bytes, the bus, and the five fixed widths WSET (spec 00_scope.md R6, R9). -/

namespace Sys2Proof

/-- One byte: an entry of the reversal ROM, or `byte_k` of a value (R15, R41). -/
abbrev Byte := BitVec 8

/-- A value on the request or response data bus. The bus is DATA_W = MAXW bits wide (R9): 128, or only the low 64
of these when EN128 is false. -/
abbrev Bus := BitVec 128

/-- WSET (R6): the five fixed widths, which are also what WCUR can hold (R32). -/
inductive Width where
  | w8 | w16 | w32 | w64 | w128
  deriving DecidableEq, Repr, Inhabited

/-- NB(W), the number of bytes of a value (R9). -/
@[reducible] def Width.bytes : Width → Nat
  | .w8 => 1 | .w16 => 2 | .w32 => 4 | .w64 => 8 | .w128 => 16

/-- W itself, the number of bits (R6, R9: W = 8 * NB(W)). -/
@[reducible] def Width.bits (w : Width) : Nat := 8 * w.bytes

/-- SW(W) = log2(W), the number of bits the Bitwise countdown needs at width W (R9). -/
@[reducible] def Width.sw : Width → Nat
  | .w8 => 3 | .w16 => 4 | .w32 => 5 | .w64 => 6 | .w128 => 7

end Sys2Proof
end

