-- ==== Sys2Proof/Config.lean ====
section
/-! DEFINITION. What a build fixes (EN128, PTR_W: spec 00_scope.md R7 to R9, 93_implementation_defined.md I1, I2) and
the free values the block leaves in its working registers (R33, R35, I8). -/

namespace Sys2Proof

/-- PTR_W, the admitted widths of the pointer-sized operations (R8, R198): 128 is not among them. -/
inductive PtrWidth where
  | p8 | p16 | p32 | p64
  deriving DecidableEq, Repr, Inhabited

/-- The fixed width that pointer-width is bound to (R190). -/
@[reducible] def PtrWidth.width : PtrWidth → Width
  | .p8 => .w8 | .p16 => .w16 | .p32 => .w32 | .p64 => .w64

/-- The two build-time parameters: arguments of the machine, not fields of its state (R28, R37). -/
structure Config where
  /-- EN128 (R7): whether the operations of width 128 exist. -/
  en128 : Bool
  /-- PTR_W (R8): the width of the pointer-sized operations. -/
  ptrW : PtrWidth
  deriving DecidableEq, Repr, Inhabited

/-- MAXW (R9): the width of the working registers R and VP. -/
def Config.maxW (c : Config) : Nat := if c.en128 then 128 else 64

/-- DATA_W = MAXW (R9): the width of the request and response data buses. -/
def Config.dataW (c : Config) : Nat := c.maxW

/-- SW(MAXW) (R22, R25): the width of the working register S. -/
def Config.swMax (c : Config) : Nat := if c.en128 then 7 else 6

/-- Whether the operations of width `w` exist in this build (R7, R69). -/
def Config.hasWidth (c : Config) (w : Width) : Bool := decide (w ≠ .w128) || c.en128

/-- The build at hand (R37). Every definition that depends on the build takes it as an argument; the functions whose
types leave no room for one (`exec`, `step`) take this constant. It has no body, so what is proved of them holds for
every EN128 and PTR_W: the spec gives no default (R7, R8, N3; log 1). -/
opaque Config.build : Config

/-- The build that the opcode table is read in: every row of the table exists in it. It stands in `decodeTableWord` and
nowhere else. DESIGN CHOICE (log 1). -/
def Config.table : Config := { en128 := true, ptrW := .p64 }

/-- What R holds once it has become unspecified (R33, R35, D12): a free value, nothing constrains it (log 3). -/
opaque Config.freeR : Nat → Bus

/-- What VP holds once it has become unspecified: a free value (log 3). -/
opaque Config.freeVP : Nat → Bus

/-- What S holds once it has become unspecified: a free value (log 3). -/
opaque Config.freeS : Nat → BitVec 7

/-- What WCUR holds once it has become unspecified: a free value (log 3). -/
opaque Config.freeW : Nat → Width

end Sys2Proof
end

