-- ==== Sys2Proof/Syntax.lean ====
section
/-! DEFINITION. The request, the three choices that name an operation, and the 36 operations: one constructor of
`Instr` for each row of the operation map (spec 30_encoding.md R60, R61, R67; opcode_table.json). -/

namespace Sys2Proof

/-- The algorithm selector (R62): "a zero-sized, stateless tag". -/
inductive Alg where
  | bitwise | parallel | lookup
  deriving DecidableEq, Repr, Inhabited

/-- The width names of field WSEL (R63): a fixed width, or pointer-width, which a build binds to PTR_W (R75). -/
inductive WidthName where
  | fixed (w : Width)
  | pointer
  deriving DecidableEq, Repr, Inhabited

/-- The signedness of the operand type (R64): `UintW` or `IntW`. -/
inductive Signedness where
  | unsigned | signed
  deriving DecidableEq, Repr, Inhabited

/-- What names an operation (R60): algorithm, width name, signedness. -/
structure Operation where
  alg : Alg
  width : WidthName
  sgn : Signedness
  deriving DecidableEq, Repr, Inhabited

/-- A request (R61): the selector `req_op` and the operand bus `req_data`. -/
structure Request where
  op : BitVec 6
  data : Bus
  deriving DecidableEq, Repr, Inhabited

/-- The effective width of a width name in a build (R63, R75). -/
def WidthName.width (c : Config) : WidthName → Width
  | .fixed w => w
  | .pointer => c.ptrW.width

/-- The 36 operations of the block with their operand, one constructor per row of R67. A fixed-width form carries the
W bits of its operand (R65); a pointer-width form carries 64 bits, of which a well-formed one uses the low PTR_W
(log 15). -/
inductive Instr where
  /-- `swap_bits.bitwise.uint8`, code 0x00 (R107). -/
  | bitwiseUint8 (v : BitVec 8)
  /-- `swap_bits.parallel.uint8`, code 0x01 (R129). -/
  | parallelUint8 (v : BitVec 8)
  /-- `swap_bits.lookup.uint8`, code 0x02 (R148). -/
  | lookupUint8 (v : BitVec 8)
  /-- `swap_bits.bitwise.uint16`, code 0x04 (R108). -/
  | bitwiseUint16 (v : BitVec 16)
  /-- `swap_bits.parallel.uint16`, code 0x05 (R130). -/
  | parallelUint16 (v : BitVec 16)
  /-- `swap_bits.lookup.uint16`, code 0x06 (R149). -/
  | lookupUint16 (v : BitVec 16)
  /-- `swap_bits.bitwise.uint32`, code 0x08 (R109). -/
  | bitwiseUint32 (v : BitVec 32)
  /-- `swap_bits.parallel.uint32`, code 0x09 (R131). -/
  | parallelUint32 (v : BitVec 32)
  /-- `swap_bits.lookup.uint32`, code 0x0A (R150). -/
  | lookupUint32 (v : BitVec 32)
  /-- `swap_bits.bitwise.uint64`, code 0x0C (R110). -/
  | bitwiseUint64 (v : BitVec 64)
  /-- `swap_bits.parallel.uint64`, code 0x0D (R132). -/
  | parallelUint64 (v : BitVec 64)
  /-- `swap_bits.lookup.uint64`, code 0x0E (R151). -/
  | lookupUint64 (v : BitVec 64)
  /-- `swap_bits.bitwise.uint128`, code 0x10 (R111). -/
  | bitwiseUint128 (v : BitVec 128)
  /-- `swap_bits.parallel.uint128`, code 0x11 (R133). -/
  | parallelUint128 (v : BitVec 128)
  /-- `swap_bits.lookup.uint128`, code 0x12 (R152). -/
  | lookupUint128 (v : BitVec 128)
  /-- `swap_bits.bitwise.uintptr`, code 0x14 (R192). -/
  | bitwiseUintptr (v : BitVec 64)
  /-- `swap_bits.parallel.uintptr`, code 0x15 (R193). -/
  | parallelUintptr (v : BitVec 64)
  /-- `swap_bits.lookup.uintptr`, code 0x16 (R194). -/
  | lookupUintptr (v : BitVec 64)
  /-- `swap_bits.bitwise.int8`, code 0x20 (R166). -/
  | bitwiseInt8 (v : BitVec 8)
  /-- `swap_bits.parallel.int8`, code 0x21 (R171). -/
  | parallelInt8 (v : BitVec 8)
  /-- `swap_bits.lookup.int8`, code 0x22 (R176). -/
  | lookupInt8 (v : BitVec 8)
  /-- `swap_bits.bitwise.int16`, code 0x24 (R167). -/
  | bitwiseInt16 (v : BitVec 16)
  /-- `swap_bits.parallel.int16`, code 0x25 (R172). -/
  | parallelInt16 (v : BitVec 16)
  /-- `swap_bits.lookup.int16`, code 0x26 (R177). -/
  | lookupInt16 (v : BitVec 16)
  /-- `swap_bits.bitwise.int32`, code 0x28 (R168). -/
  | bitwiseInt32 (v : BitVec 32)
  /-- `swap_bits.parallel.int32`, code 0x29 (R173). -/
  | parallelInt32 (v : BitVec 32)
  /-- `swap_bits.lookup.int32`, code 0x2A (R178). -/
  | lookupInt32 (v : BitVec 32)
  /-- `swap_bits.bitwise.int64`, code 0x2C (R169). -/
  | bitwiseInt64 (v : BitVec 64)
  /-- `swap_bits.parallel.int64`, code 0x2D (R174). -/
  | parallelInt64 (v : BitVec 64)
  /-- `swap_bits.lookup.int64`, code 0x2E (R179). -/
  | lookupInt64 (v : BitVec 64)
  /-- `swap_bits.bitwise.int128`, code 0x30 (R170). -/
  | bitwiseInt128 (v : BitVec 128)
  /-- `swap_bits.parallel.int128`, code 0x31 (R175). -/
  | parallelInt128 (v : BitVec 128)
  /-- `swap_bits.lookup.int128`, code 0x32 (R180). -/
  | lookupInt128 (v : BitVec 128)
  /-- `swap_bits.bitwise.intptr`, code 0x34 (R195). -/
  | bitwiseIntptr (v : BitVec 64)
  /-- `swap_bits.parallel.intptr`, code 0x35 (R196). -/
  | parallelIntptr (v : BitVec 64)
  /-- `swap_bits.lookup.intptr`, code 0x36 (R197). -/
  | lookupIntptr (v : BitVec 64)
  deriving DecidableEq, Repr

/-- The operation an instruction names (R60, R67). -/
def Instr.operation : Instr → Operation
  | .bitwiseUint8 _ => ⟨.bitwise, .fixed .w8, .unsigned⟩
  | .parallelUint8 _ => ⟨.parallel, .fixed .w8, .unsigned⟩
  | .lookupUint8 _ => ⟨.lookup, .fixed .w8, .unsigned⟩
  | .bitwiseUint16 _ => ⟨.bitwise, .fixed .w16, .unsigned⟩
  | .parallelUint16 _ => ⟨.parallel, .fixed .w16, .unsigned⟩
  | .lookupUint16 _ => ⟨.lookup, .fixed .w16, .unsigned⟩
  | .bitwiseUint32 _ => ⟨.bitwise, .fixed .w32, .unsigned⟩
  | .parallelUint32 _ => ⟨.parallel, .fixed .w32, .unsigned⟩
  | .lookupUint32 _ => ⟨.lookup, .fixed .w32, .unsigned⟩
  | .bitwiseUint64 _ => ⟨.bitwise, .fixed .w64, .unsigned⟩
  | .parallelUint64 _ => ⟨.parallel, .fixed .w64, .unsigned⟩
  | .lookupUint64 _ => ⟨.lookup, .fixed .w64, .unsigned⟩
  | .bitwiseUint128 _ => ⟨.bitwise, .fixed .w128, .unsigned⟩
  | .parallelUint128 _ => ⟨.parallel, .fixed .w128, .unsigned⟩
  | .lookupUint128 _ => ⟨.lookup, .fixed .w128, .unsigned⟩
  | .bitwiseUintptr _ => ⟨.bitwise, .pointer, .unsigned⟩
  | .parallelUintptr _ => ⟨.parallel, .pointer, .unsigned⟩
  | .lookupUintptr _ => ⟨.lookup, .pointer, .unsigned⟩
  | .bitwiseInt8 _ => ⟨.bitwise, .fixed .w8, .signed⟩
  | .parallelInt8 _ => ⟨.parallel, .fixed .w8, .signed⟩
  | .lookupInt8 _ => ⟨.lookup, .fixed .w8, .signed⟩
  | .bitwiseInt16 _ => ⟨.bitwise, .fixed .w16, .signed⟩
  | .parallelInt16 _ => ⟨.parallel, .fixed .w16, .signed⟩
  | .lookupInt16 _ => ⟨.lookup, .fixed .w16, .signed⟩
  | .bitwiseInt32 _ => ⟨.bitwise, .fixed .w32, .signed⟩
  | .parallelInt32 _ => ⟨.parallel, .fixed .w32, .signed⟩
  | .lookupInt32 _ => ⟨.lookup, .fixed .w32, .signed⟩
  | .bitwiseInt64 _ => ⟨.bitwise, .fixed .w64, .signed⟩
  | .parallelInt64 _ => ⟨.parallel, .fixed .w64, .signed⟩
  | .lookupInt64 _ => ⟨.lookup, .fixed .w64, .signed⟩
  | .bitwiseInt128 _ => ⟨.bitwise, .fixed .w128, .signed⟩
  | .parallelInt128 _ => ⟨.parallel, .fixed .w128, .signed⟩
  | .lookupInt128 _ => ⟨.lookup, .fixed .w128, .signed⟩
  | .bitwiseIntptr _ => ⟨.bitwise, .pointer, .signed⟩
  | .parallelIntptr _ => ⟨.parallel, .pointer, .signed⟩
  | .lookupIntptr _ => ⟨.lookup, .pointer, .signed⟩

/-- The operand as it stands on the request bus, with zeros above it (R65). -/
def Instr.operandBus : Instr → Bus
  | .bitwiseUint8 v => v.setWidth 128
  | .parallelUint8 v => v.setWidth 128
  | .lookupUint8 v => v.setWidth 128
  | .bitwiseUint16 v => v.setWidth 128
  | .parallelUint16 v => v.setWidth 128
  | .lookupUint16 v => v.setWidth 128
  | .bitwiseUint32 v => v.setWidth 128
  | .parallelUint32 v => v.setWidth 128
  | .lookupUint32 v => v.setWidth 128
  | .bitwiseUint64 v => v.setWidth 128
  | .parallelUint64 v => v.setWidth 128
  | .lookupUint64 v => v.setWidth 128
  | .bitwiseUint128 v => v.setWidth 128
  | .parallelUint128 v => v.setWidth 128
  | .lookupUint128 v => v.setWidth 128
  | .bitwiseUintptr v => v.setWidth 128
  | .parallelUintptr v => v.setWidth 128
  | .lookupUintptr v => v.setWidth 128
  | .bitwiseInt8 v => v.setWidth 128
  | .parallelInt8 v => v.setWidth 128
  | .lookupInt8 v => v.setWidth 128
  | .bitwiseInt16 v => v.setWidth 128
  | .parallelInt16 v => v.setWidth 128
  | .lookupInt16 v => v.setWidth 128
  | .bitwiseInt32 v => v.setWidth 128
  | .parallelInt32 v => v.setWidth 128
  | .lookupInt32 v => v.setWidth 128
  | .bitwiseInt64 v => v.setWidth 128
  | .parallelInt64 v => v.setWidth 128
  | .lookupInt64 v => v.setWidth 128
  | .bitwiseInt128 v => v.setWidth 128
  | .parallelInt128 v => v.setWidth 128
  | .lookupInt128 v => v.setWidth 128
  | .bitwiseIntptr v => v.setWidth 128
  | .parallelIntptr v => v.setWidth 128
  | .lookupIntptr v => v.setWidth 128

/-- The effective width W of an instruction in a build (R75). -/
def Instr.width (c : Config) (i : Instr) : Width := i.operation.width.width c

end Sys2Proof
end

