-- ==== Sys2Proof/WellFormed.lean ====
section
/-! DEFINITION. Which instructions and requests a build can have: the operations of width 128 exist only with EN128
(spec 00_scope.md R7, 30_encoding.md R69), a pointer-width operand has PTR_W bits (45_pointer_width.md R192 to R197),
and a request fits the DATA_W bits of the bus (R9, R61). -/

namespace Sys2Proof

/-- A pointer-width operand has no bit at or above PTR_W (R192 to R197). -/
def ptrOperandFits (c : Config) (v : BitVec 64) : Bool := decide (v.toNat < 2 ^ c.ptrW.width.bits)

/-- Whether a build has this instruction. -/
def Instr.wf (c : Config) : Instr → Bool
  | .bitwiseUint8 _ => true
  | .parallelUint8 _ => true
  | .lookupUint8 _ => true
  | .bitwiseUint16 _ => true
  | .parallelUint16 _ => true
  | .lookupUint16 _ => true
  | .bitwiseUint32 _ => true
  | .parallelUint32 _ => true
  | .lookupUint32 _ => true
  | .bitwiseUint64 _ => true
  | .parallelUint64 _ => true
  | .lookupUint64 _ => true
  | .bitwiseUint128 _ => c.en128
  | .parallelUint128 _ => c.en128
  | .lookupUint128 _ => c.en128
  | .bitwiseUintptr v => ptrOperandFits c v
  | .parallelUintptr v => ptrOperandFits c v
  | .lookupUintptr v => ptrOperandFits c v
  | .bitwiseInt8 _ => true
  | .parallelInt8 _ => true
  | .lookupInt8 _ => true
  | .bitwiseInt16 _ => true
  | .parallelInt16 _ => true
  | .lookupInt16 _ => true
  | .bitwiseInt32 _ => true
  | .parallelInt32 _ => true
  | .lookupInt32 _ => true
  | .bitwiseInt64 _ => true
  | .parallelInt64 _ => true
  | .lookupInt64 _ => true
  | .bitwiseInt128 _ => c.en128
  | .parallelInt128 _ => c.en128
  | .lookupInt128 _ => c.en128
  | .bitwiseIntptr v => ptrOperandFits c v
  | .parallelIntptr v => ptrOperandFits c v
  | .lookupIntptr v => ptrOperandFits c v

/-- Whether the request can stand on the wires of this build: its data has no bit at or above DATA_W (R9, R61). -/
def Request.wf (c : Config) (q : Request) : Bool := decide (q.data.toNat < 2 ^ c.dataW)

end Sys2Proof
end

