-- ==== Sys2Proof/Decode.lean ====
section
/-! DEFINITION. The decoder and the encoder of a request (spec 30_encoding.md R61 to R69, R74, R75), and the spelling of
an operation (R72, R73). -/

namespace Sys2Proof

/-- Field ALG, `req_op[1:0]` (R62). -/
def Request.algField (op : BitVec 6) : BitVec 2 := op.extractLsb' 0 2

/-- Field WSEL, `req_op[4:2]` (R63). -/
def Request.wselField (op : BitVec 6) : BitVec 3 := op.extractLsb' 2 3

/-- Field SGN, `req_op[5]` (R64). -/
def Request.sgnField (op : BitVec 6) : Bool := op.getLsbD 5

/-- Why a selector names no operation of the build. -/
inductive Reserved where
  /-- ALG = 11 (R68). -/
  | alg
  /-- WSEL = 110 or 111 (R68). -/
  | wsel
  /-- WSEL = 100 in a build whose EN128 is false (R69). -/
  | width128
  deriving DecidableEq, Repr

/-- The codes of ALG (R62); 11 is reserved. -/
def algOfCode (a : BitVec 2) : Option Alg :=
  match a.toNat with
  | 0 => some .bitwise
  | 1 => some .parallel
  | 2 => some .lookup
  | _ => none

/-- The codes of WSEL (R63); 110 and 111 are reserved. -/
def widthNameOfCode (a : BitVec 3) : Option WidthName :=
  match a.toNat with
  | 0 => some (.fixed .w8)
  | 1 => some (.fixed .w16)
  | 2 => some (.fixed .w32)
  | 3 => some (.fixed .w64)
  | 4 => some (.fixed .w128)
  | 5 => some .pointer
  | _ => none

/-- The codes of SGN (R64). -/
def signednessOfBit (b : Bool) : Signedness := if b then .signed else .unsigned

/-- `decode` of R74 on the selector: a total function of the 64 codes and EN128, to an operation or a named reason
for refusing. -/
def decodeOp (c : Config) (op : BitVec 6) : Except Reserved Operation :=
  match algOfCode (Request.algField op) with
  | none => .error .alg
  | some a =>
    match widthNameOfCode (Request.wselField op) with
    | none => .error .wsel
    | some n =>
      if n = .fixed .w128 ∧ c.en128 = false then .error .width128
      else .ok ⟨a, n, signednessOfBit (Request.sgnField op)⟩

/-- The operand of a pointer-width request: the low PTR_W bits of the bus (R65, R75), with zeros above. -/
def ptrOperand (c : Config) (data : Bus) : BitVec 64 := (data.setWidth c.ptrW.width.bits).setWidth 64

/-- The instruction of an operation and an operand bus: the operand is the low W bits, the bits above are ignored
(R65). -/
def Instr.ofOperation (c : Config) (o : Operation) (data : Bus) : Instr :=
  match o with
  | ⟨.bitwise, .fixed .w8, .unsigned⟩ => .bitwiseUint8 (data.setWidth 8)
  | ⟨.parallel, .fixed .w8, .unsigned⟩ => .parallelUint8 (data.setWidth 8)
  | ⟨.lookup, .fixed .w8, .unsigned⟩ => .lookupUint8 (data.setWidth 8)
  | ⟨.bitwise, .fixed .w16, .unsigned⟩ => .bitwiseUint16 (data.setWidth 16)
  | ⟨.parallel, .fixed .w16, .unsigned⟩ => .parallelUint16 (data.setWidth 16)
  | ⟨.lookup, .fixed .w16, .unsigned⟩ => .lookupUint16 (data.setWidth 16)
  | ⟨.bitwise, .fixed .w32, .unsigned⟩ => .bitwiseUint32 (data.setWidth 32)
  | ⟨.parallel, .fixed .w32, .unsigned⟩ => .parallelUint32 (data.setWidth 32)
  | ⟨.lookup, .fixed .w32, .unsigned⟩ => .lookupUint32 (data.setWidth 32)
  | ⟨.bitwise, .fixed .w64, .unsigned⟩ => .bitwiseUint64 (data.setWidth 64)
  | ⟨.parallel, .fixed .w64, .unsigned⟩ => .parallelUint64 (data.setWidth 64)
  | ⟨.lookup, .fixed .w64, .unsigned⟩ => .lookupUint64 (data.setWidth 64)
  | ⟨.bitwise, .fixed .w128, .unsigned⟩ => .bitwiseUint128 data
  | ⟨.parallel, .fixed .w128, .unsigned⟩ => .parallelUint128 data
  | ⟨.lookup, .fixed .w128, .unsigned⟩ => .lookupUint128 data
  | ⟨.bitwise, .pointer, .unsigned⟩ => .bitwiseUintptr (ptrOperand c data)
  | ⟨.parallel, .pointer, .unsigned⟩ => .parallelUintptr (ptrOperand c data)
  | ⟨.lookup, .pointer, .unsigned⟩ => .lookupUintptr (ptrOperand c data)
  | ⟨.bitwise, .fixed .w8, .signed⟩ => .bitwiseInt8 (data.setWidth 8)
  | ⟨.parallel, .fixed .w8, .signed⟩ => .parallelInt8 (data.setWidth 8)
  | ⟨.lookup, .fixed .w8, .signed⟩ => .lookupInt8 (data.setWidth 8)
  | ⟨.bitwise, .fixed .w16, .signed⟩ => .bitwiseInt16 (data.setWidth 16)
  | ⟨.parallel, .fixed .w16, .signed⟩ => .parallelInt16 (data.setWidth 16)
  | ⟨.lookup, .fixed .w16, .signed⟩ => .lookupInt16 (data.setWidth 16)
  | ⟨.bitwise, .fixed .w32, .signed⟩ => .bitwiseInt32 (data.setWidth 32)
  | ⟨.parallel, .fixed .w32, .signed⟩ => .parallelInt32 (data.setWidth 32)
  | ⟨.lookup, .fixed .w32, .signed⟩ => .lookupInt32 (data.setWidth 32)
  | ⟨.bitwise, .fixed .w64, .signed⟩ => .bitwiseInt64 (data.setWidth 64)
  | ⟨.parallel, .fixed .w64, .signed⟩ => .parallelInt64 (data.setWidth 64)
  | ⟨.lookup, .fixed .w64, .signed⟩ => .lookupInt64 (data.setWidth 64)
  | ⟨.bitwise, .fixed .w128, .signed⟩ => .bitwiseInt128 data
  | ⟨.parallel, .fixed .w128, .signed⟩ => .parallelInt128 data
  | ⟨.lookup, .fixed .w128, .signed⟩ => .lookupInt128 data
  | ⟨.bitwise, .pointer, .signed⟩ => .bitwiseIntptr (ptrOperand c data)
  | ⟨.parallel, .pointer, .signed⟩ => .parallelIntptr (ptrOperand c data)
  | ⟨.lookup, .pointer, .signed⟩ => .lookupIntptr (ptrOperand c data)

/-- The decoder of a request (R65, R74): the operation its selector names, with its operand. -/
def decode (c : Config) (q : Request) : Except Reserved Instr :=
  match decodeOp c q.op with
  | .ok o => .ok (Instr.ofOperation c o q.data)
  | .error why => .error why

/-- The code of an algorithm in ALG (R62). -/
def Alg.code : Alg → BitVec 2
  | .bitwise => 0b00#2
  | .parallel => 0b01#2
  | .lookup => 0b10#2

/-- The code of a width name in WSEL (R63). -/
def WidthName.code : WidthName → BitVec 3
  | .fixed .w8 => 0b000#3
  | .fixed .w16 => 0b001#3
  | .fixed .w32 => 0b010#3
  | .fixed .w64 => 0b011#3
  | .fixed .w128 => 0b100#3
  | .pointer => 0b101#3

/-- The code of a signedness in SGN (R64). -/
def Signedness.code : Signedness → BitVec 1
  | .unsigned => 0b0#1
  | .signed => 0b1#1

/-- The selector of an operation (R61): SGN in bit 5, WSEL in bits 4:2, ALG in bits 1:0. -/
def Operation.selector (o : Operation) : BitVec 6 := o.sgn.code ++ o.width.code ++ o.alg.code

/-- The encoder (R61, R65): the selector, and the operand in the low bits of the bus with zeros above. -/
def encode (i : Instr) : Request := { op := i.operation.selector, data := i.operandBus }

/-- The request that a number spells, bits above `nbits` being 0. REQ is `req_op` and `req_data` (R61); the table
numbers the selector as bits 5:0, and the model puts `req_data` from bit 6 up. DESIGN CHOICE (log 5): the spec gives
the pair and its length 6 + DATA_W, not the place of the data in one number. -/
def Request.ofWord (nbits w : Nat) : Request :=
  { op := BitVec.ofNat 6 (w % 2 ^ nbits), data := BitVec.ofNat 128 (w % 2 ^ nbits / 64) }

/-- `<alg>` of the request syntax (R72). -/
def Alg.text : Alg → String
  | .bitwise => "bitwise"
  | .parallel => "parallel"
  | .lookup => "lookup"

/-- `<type>` of the request syntax (R72) after `uint` or `int`: the width written out, `ptr` for
pointer-width. -/
def WidthName.text : WidthName → String
  | .fixed .w8 => "8"
  | .fixed .w16 => "16"
  | .fixed .w32 => "32"
  | .fixed .w64 => "64"
  | .fixed .w128 => "128"
  | .pointer => "ptr"

/-- The mnemonic of an operation (R67, R72): `swap_bits.<alg>.<type>`. There is no other spelling (R73). -/
def Operation.mnemonic (o : Operation) : String :=
  "swap_bits." ++ o.alg.text ++ (match o.sgn with | .unsigned => ".uint" | .signed => ".int") ++ o.width.text

/-- The number that spells a request: the inverse of `Request.ofWord` for 6 + 128 bits. -/
def Request.toWord (q : Request) : Nat := q.op.toNat + 64 * q.data.toNat

/-- The instruction that the decoder reads from a table word, in the build that has every row (log 1). -/
def decodeTableWord (nbits w : Nat) : Option Instr :=
  match decode Config.table (Request.ofWord nbits w) with
  | .ok i => some i
  | .error _ => none

end Sys2Proof
end

