-- ==== Sys2Proof/Machine/State.lean ====
section
/-! DEFINITION. The state of the block as plain data (spec 10_state.md R22 to R39), what stands on its ports, the
reasons a step can stop, and the machine right after reset (R35, R220, R221). -/

namespace Sys2Proof.Machine

/-- PHASE (R32): IDLE, or BUSY while a Bitwise operation has been accepted and has not completed. -/
inductive Phase where
  | idle | busy
  deriving DecidableEq, Repr, Inhabited

/-- What stands on the input ports in one step (R34): `rst`, and the request channel (`some` when `req_valid` is 1). -/
structure Stimulus where
  rst : Bool
  req : Option Request
  deriving DecidableEq, Repr, Inhabited

/-- The machine has no fault: "There are no error conditions" (R12, R200). No constructor, so no step can fault. -/
inductive Fault where
  deriving DecidableEq, Repr

/-- Why a step has no next state. -/
inductive Refusal where
  /-- An instruction of the table that has no meaning yet. Raised by no arm: every instruction is modelled. Safe. -/
  | notModelled (mnemonic : String)
  /-- `refuse(reserved selector)` of R12, R68, R69: the request names no operation of this build; it is not taken,
  nothing changes and nothing responds. Raised by `step` alone, when an idle block is offered a selector that decode
  calls reserved (one of width 128 in a build without EN128 among them). Safe: nothing can be proved of such a request. -/
  | reservedSelector (why : Reserved)
  deriving DecidableEq, Repr

/-- The state. `phase`, `wcur`, `regR`, `regVP` and `regS` are the step-level state of R22; `rsp` is the response
channel in the step just taken (R34); `rstIn` and `reqIn` are what the platform and the requester put on the input
ports in the coming steps (log 6); `fresh` counts the times the working registers have become unspecified (log 3). The
build is no part of it (R28). -/
structure State where
  /-- PHASE (R32). -/
  phase : Phase
  /-- WCUR, the effective width of the operation in flight (R32). -/
  wcur : Width
  /-- R, the output accumulator (R23): MAXW bits, the low W used. -/
  regR : Bus
  /-- VP, the working copy `v'` (R24): MAXW bits, the low W used. -/
  regVP : Bus
  /-- S, the countdown (R25): SW(MAXW) bits. -/
  regS : BitVec 7
  /-- `rsp_valid` and `rsp_data` of the step just taken (R34, R66): `none` when `rsp_valid` was 0 (log 7). -/
  rsp : Option Bus
  /-- Whether `rst` is asserted, step by step, the coming step first; after the last it is not. Each step uses up one
  entry, so that reset can come in any step. -/
  rstIn : List Bool
  /-- What the requester has to present: a request, which is presented until it is taken, or nothing for one step. After
  the last, nothing is presented. -/
  reqIn : List (Option Request)
  /-- The model's own counter: which free values the working registers get next. -/
  fresh : Nat
  deriving DecidableEq, Repr

/-- The machine right after reset, in every build (R35): PHASE is IDLE and no response is produced. The spec gives R,
VP, S and WCUR no value; DESIGN CHOICE (log 2), unsafe: they hold 0, and WCUR the first member of WSET. Nothing is
presented. -/
def State.reset : State :=
  { phase := .idle, wcur := .w8, regR := 0, regVP := 0, regS := 0, rsp := none, rstIn := [], reqIn := [], fresh := 0 }

end Sys2Proof.Machine
end

