-- ==== Sys2Proof/Machine/Rom.lean ====
section
/-! DEFINITION. The one memory of the block: the reversal ROM REV8, 256 entries of 8 bits (spec 20_memory.md R40 to
R48). It is a constant, not a field of the state (10_state.md R31; log 9); nothing writes it. -/

namespace Sys2Proof.Machine

/-- A memory: (index, byte) pairs. -/
abbrev Memory := List Host.Cell

/-- The canonical form of a memory: indices strictly rising. No value is left out as a default: an index that is not
listed does not exist (R41, R48). -/
def Memory.wf (m : Memory) : Bool := decide ((m.map Prod.fst).Pairwise (· < ·))

/-- `MemRead(addr, 1)` (R17, R44): the byte at an index, `none` where the memory has no such index. -/
def memRead (m : Memory) (a : Nat) : Option Byte := (m.find? fun c => c.1 == a).map Prod.snd

/-- Cells at consecutive indices. -/
def cellsFrom (a : Nat) : List Byte → List Host.Cell
  | [] => []
  | b :: bs => (a, b) :: cellsFrom (a + 1) bs

/-- Row 0x0_ of the listing of R42. -/
def revRow0 : List Byte :=
  [0x00, 0x80, 0x40, 0xC0, 0x20, 0xA0, 0x60, 0xE0, 0x10, 0x90, 0x50, 0xD0, 0x30, 0xB0, 0x70, 0xF0]

/-- Row 0x1_ of the listing of R42. -/
def revRow1 : List Byte :=
  [0x08, 0x88, 0x48, 0xC8, 0x28, 0xA8, 0x68, 0xE8, 0x18, 0x98, 0x58, 0xD8, 0x38, 0xB8, 0x78, 0xF8]

/-- Row 0x2_ of the listing of R42. -/
def revRow2 : List Byte :=
  [0x04, 0x84, 0x44, 0xC4, 0x24, 0xA4, 0x64, 0xE4, 0x14, 0x94, 0x54, 0xD4, 0x34, 0xB4, 0x74, 0xF4]

/-- Row 0x3_ of the listing of R42. -/
def revRow3 : List Byte :=
  [0x0C, 0x8C, 0x4C, 0xCC, 0x2C, 0xAC, 0x6C, 0xEC, 0x1C, 0x9C, 0x5C, 0xDC, 0x3C, 0xBC, 0x7C, 0xFC]

/-- Row 0x4_ of the listing of R42. -/
def revRow4 : List Byte :=
  [0x02, 0x82, 0x42, 0xC2, 0x22, 0xA2, 0x62, 0xE2, 0x12, 0x92, 0x52, 0xD2, 0x32, 0xB2, 0x72, 0xF2]

/-- Row 0x5_ of the listing of R42. -/
def revRow5 : List Byte :=
  [0x0A, 0x8A, 0x4A, 0xCA, 0x2A, 0xAA, 0x6A, 0xEA, 0x1A, 0x9A, 0x5A, 0xDA, 0x3A, 0xBA, 0x7A, 0xFA]

/-- Row 0x6_ of the listing of R42. -/
def revRow6 : List Byte :=
  [0x06, 0x86, 0x46, 0xC6, 0x26, 0xA6, 0x66, 0xE6, 0x16, 0x96, 0x56, 0xD6, 0x36, 0xB6, 0x76, 0xF6]

/-- Row 0x7_ of the listing of R42. -/
def revRow7 : List Byte :=
  [0x0E, 0x8E, 0x4E, 0xCE, 0x2E, 0xAE, 0x6E, 0xEE, 0x1E, 0x9E, 0x5E, 0xDE, 0x3E, 0xBE, 0x7E, 0xFE]

/-- Row 0x8_ of the listing of R42. -/
def revRow8 : List Byte :=
  [0x01, 0x81, 0x41, 0xC1, 0x21, 0xA1, 0x61, 0xE1, 0x11, 0x91, 0x51, 0xD1, 0x31, 0xB1, 0x71, 0xF1]

/-- Row 0x9_ of the listing of R42. -/
def revRow9 : List Byte :=
  [0x09, 0x89, 0x49, 0xC9, 0x29, 0xA9, 0x69, 0xE9, 0x19, 0x99, 0x59, 0xD9, 0x39, 0xB9, 0x79, 0xF9]

/-- Row 0xA_ of the listing of R42. -/
def revRowA : List Byte :=
  [0x05, 0x85, 0x45, 0xC5, 0x25, 0xA5, 0x65, 0xE5, 0x15, 0x95, 0x55, 0xD5, 0x35, 0xB5, 0x75, 0xF5]

/-- Row 0xB_ of the listing of R42. -/
def revRowB : List Byte :=
  [0x0D, 0x8D, 0x4D, 0xCD, 0x2D, 0xAD, 0x6D, 0xED, 0x1D, 0x9D, 0x5D, 0xDD, 0x3D, 0xBD, 0x7D, 0xFD]

/-- Row 0xC_ of the listing of R42. -/
def revRowC : List Byte :=
  [0x03, 0x83, 0x43, 0xC3, 0x23, 0xA3, 0x63, 0xE3, 0x13, 0x93, 0x53, 0xD3, 0x33, 0xB3, 0x73, 0xF3]

/-- Row 0xD_ of the listing of R42. -/
def revRowD : List Byte :=
  [0x0B, 0x8B, 0x4B, 0xCB, 0x2B, 0xAB, 0x6B, 0xEB, 0x1B, 0x9B, 0x5B, 0xDB, 0x3B, 0xBB, 0x7B, 0xFB]

/-- Row 0xE_ of the listing of R42. -/
def revRowE : List Byte :=
  [0x07, 0x87, 0x47, 0xC7, 0x27, 0xA7, 0x67, 0xE7, 0x17, 0x97, 0x57, 0xD7, 0x37, 0xB7, 0x77, 0xF7]

/-- Row 0xF_ of the listing of R42. -/
def revRowF : List Byte :=
  [0x0F, 0x8F, 0x4F, 0xCF, 0x2F, 0xAF, 0x6F, 0xEF, 0x1F, 0x9F, 0x5F, 0xDF, 0x3F, 0xBF, 0x7F, 0xFF]

/-- REV8, the contents of the ROM: the listing of R42, row after row. -/
def rom : Memory :=
  cellsFrom 0 (revRow0 ++ revRow1 ++ revRow2 ++ revRow3 ++ revRow4 ++ revRow5 ++ revRow6 ++ revRow7 ++
    revRow8 ++ revRow9 ++ revRowA ++ revRowB ++ revRowC ++ revRowD ++ revRowE ++ revRowF)

/-- Every 8-bit index has an entry (R41, R44): the proof of bounds that R145 asks for. -/
theorem rom_populated (i : Byte) : (memRead rom i.toNat).isSome = true := by
  have h : ∀ j : Byte, (memRead rom j.toNat).isSome = true := by decide +kernel
  exact h i

/-- `RomRead(i)` (R44): the entry REV8[uval(i)]. It is total because every 8-bit index is populated. -/
def romRead (i : Byte) : Byte := (memRead rom i.toNat).get (rom_populated i)

end Sys2Proof.Machine
end

