-- ==== Sys2Proof/Machine/Operands.lean ====
section
/-! DEFINITION. The bits and bytes of a value, the signed reading, and the assembly of operands and results (spec
00_scope.md R13 to R16, 30_encoding.md R65, R66, 40_contract.md R80, R93, 44_signed_adapter.md R160, R161). -/

namespace Sys2Proof.Machine

/-- `byte_k(v)` (R15, R141): bits 8k+7 down to 8k; byte 0 is the least significant. -/
def byteOf {n : Nat} (v : BitVec n) (k : Nat) : Byte := v.extractLsb' (8 * k) 8

/-- The value of `n` bytes whose byte k is `f k` (R15). -/
def ofBytes : (n : Nat) → (Nat → Byte) → BitVec (8 * n)
  | 0, _ => 0#0
  | n + 1, f => (f n ++ ofBytes n f).cast (by omega)

/-- `bswap_W` (R15, R93): byte k of the result is byte NB(W)-1-k of the value. -/
def bswap (n : Nat) (v : BitVec (8 * n)) : BitVec (8 * n) := ofBytes n fun k => byteOf v (n - 1 - k)

/-- `rev_W` (R80), the specification function: bit i of the result is bit W-1-i of the value. -/
def rev {n : Nat} (v : BitVec n) : BitVec n := BitVec.ofFnLE fun i : Fin n => v.getLsbD (n - 1 - i)

/-- `uval` (R13). -/
def uval {n : Nat} (v : BitVec n) : Nat := v.toNat

/-- `sval` (R16), the two's-complement reading: `uval` less 2^W when the top bit is 1. PRESUMED (log 12), safe: the
spec marks the formula as general knowledge; no step reads it. -/
def sval {n : Nat} (v : BitVec n) : Int := if v.msb then (uval v : Int) - 2 ^ n else uval v

/-- `to_unsigned_W` (R16, R160): the same bits, read as `UintW`. -/
def toUnsigned {n : Nat} (v : BitVec n) : BitVec n := v

/-- `to_signed_W` (R16, R160): the same bits, read as `IntW`. -/
def toSigned {n : Nat} (v : BitVec n) : BitVec n := v

/-- The signedness adapter (R160, R162): one for all three algorithms, and wires in hardware (R164). -/
def signedAdapter {n : Nat} (algorithm : BitVec n → BitVec n) (v : BitVec n) : BitVec n :=
  toSigned (algorithm (toUnsigned v))

/-- A W-bit value on a bus or in a MAXW-bit register: the value in the low W bits, zeros above (R66). -/
def onBus {n : Nat} (v : BitVec n) : Bus := v.setWidth 128

/-- The low W bits of a bus or a MAXW-bit register (R23, R65): the bits above are ignored. -/
def lowBits (w : Width) (x : Bus) : BitVec w.bits := x.setWidth w.bits

end Sys2Proof.Machine
end

