-- ==== Sys2Proof/Machine/Algorithms.lean ====
section
/-! DEFINITION. The three algorithms (spec 41_bitwise.md R100 to R103, 42_parallel.md R120 to R125, 43_lookup.md R140
to R145). -/

namespace Sys2Proof.Machine

/-- The three working registers of Bitwise at width `n` (R23 to R25): R, VP (`v'`) and S. -/
structure BwRegs (n : Nat) where
  r : BitVec n
  vp : BitVec n
  s : BitVec 7
  deriving DecidableEq, Repr

/-- The three initial assignments of R100: R <- v, VP <- shr_W(v, 1), S <- W - 1. -/
def bwInit {n : Nat} (v : BitVec n) : BwRegs n := { r := v, vp := v >>> 1, s := BitVec.ofNat 7 (n - 1) }

/-- One pass of the loop body of R100, all reads before all writes: R <- shl_W(R, 1) | zext_W(VP[0]),
VP <- shr_W(VP, 1), S <- S - 1. -/
def bwStep {n : Nat} (x : BwRegs n) : BwRegs n :=
  { r := x.r <<< 1 ||| (BitVec.ofBool (x.vp.getLsbD 0)).setWidth n, vp := x.vp >>> 1, s := x.s - 1 }

/-- The value after the loop (R100): the remaining S placeholder shifts, all at once. -/
def bwResult {n : Nat} (x : BwRegs n) : BitVec n := x.r <<< x.s.toNat

/-- The loop `while VP != 0` (R100), for at most `fuel` passes. -/
def bwLoop {n : Nat} : Nat → BwRegs n → BwRegs n
  | 0, x => x
  | fuel + 1, x => if x.vp = 0 then x else bwLoop fuel (bwStep x)

/-- `bitwise_W` (R100). `n` passes are always enough: the loop takes at most W-1 (R103). -/
def bitwise {n : Nat} (v : BitVec n) : BitVec n := bwResult (bwLoop n (bwInit v))

/-- `iters_W(v)` (R102): the index of the highest 1 bit of v, 0 for v = 0 and v = 1. -/
def iters {n : Nat} (v : BitVec n) : Nat := Nat.log2 (uval v)

/-- M1_W (R121): the byte 0x55 repeated NB(W) times. -/
def mask1 (n : Nat) : BitVec (8 * n) := BitVec.replicate n 0x55#8

/-- M2_W (R121): the byte 0x33 repeated NB(W) times. -/
def mask2 (n : Nat) : BitVec (8 * n) := BitVec.replicate n 0x33#8

/-- M4_W (R121): the byte 0x0F repeated NB(W) times. -/
def mask4 (n : Nat) : BitVec (8 * n) := BitVec.replicate n 0x0F#8

/-- One pass `swap_k` under a mask, as R123 writes it: (shr_W(x, k) & M) | shl_W(x & M, k).
PRESUMED (log 11), safe: the spec marks the expression as general knowledge, and the statements hold it to R122. -/
def swapPass {n : Nat} (k : Nat) (mask x : BitVec n) : BitVec n := (x >>> k &&& mask) ||| (x &&& mask) <<< k

/-- The three passes of R120: the bits of every byte are reversed, the bytes stay where they are (R134). -/
def swapPasses (n : Nat) (v : BitVec (8 * n)) : BitVec (8 * n) :=
  swapPass 4 (mask4 n) (swapPass 2 (mask2 n) (swapPass 1 (mask1 n) v))

/-- `parallel_W` (R120), W = 8 * n: the three passes, then the byte-swap. -/
def parallel (n : Nat) (v : BitVec (8 * n)) : BitVec (8 * n) := bswap n (swapPasses n v)

/-- The ROM indices one Lookup operation reads (R52, R142): its NB(W) bytes. -/
def lookupReads (n : Nat) (v : BitVec (8 * n)) : List Byte := (List.range n).map (byteOf v)

/-- `lookup_W` (R140), W = 8 * n: one ROM read for each index of `lookupReads`, and the entry read for byte k goes to
byte n-1-k of the result (R143). -/
def lookup (n : Nat) (v : BitVec (8 * n)) : BitVec (8 * n) :=
  let entries := (lookupReads n v).map romRead
  ofBytes n fun j => entries.getD (n - 1 - j) 0

end Sys2Proof.Machine
end

