-- ==== Sys2Proof/Machine/Ops.lean ====
section
/-! DEFINITION. The steps of the block as operations on the state: the step relation of spec 10_state.md R33, with the
free values of R35 and the ports of R34. What depends on the build takes it as the argument `c` (R28, R37). The block has
no exception to take (60_exceptions.md R200, R204). -/

namespace Sys2Proof.Machine

/-- What stands on the input ports in the coming step (R34): `rst` at 0 and nothing presented once the lists are at
their ends. -/
def State.wires (s : State) : Stimulus := { rst := s.rstIn.headD false, req := s.reqIn.headD none }

/-- A request that stands on the ports is not taken in a step with `rst` asserted or with PHASE = BUSY: the requester
holds it (R33, R203). -/
def State.holds (s : State) : Bool := s.wires.req.isSome && (s.wires.rst || decide (s.phase = .busy))

/-- The input ports move on by one step. `rst` moves on in every step, so that reset can be asserted at any time (R33); a
request that is held is presented still. -/
def State.passPorts (s : State) : State :=
  { s with rstIn := s.rstIn.tail, reqIn := if s.holds then s.reqIn else s.reqIn.tail }

/-- `req_ready` (R34): 1 exactly when PHASE = IDLE. -/
def State.reqReady (s : State) : Bool := decide (s.phase = .idle)

/-- `rsp_valid` (R34): 1 in a step that executed `respond`. -/
def State.rspValid (s : State) : Bool := s.rsp.isSome

/-- The working registers at the width of the operation in flight: the low W bits of R and VP, and S (R23 to R25). -/
def State.bw (s : State) : BwRegs s.wcur.bits :=
  { r := lowBits s.wcur s.regR, vp := lowBits s.wcur s.regVP, s := s.regS }

/-- R, VP, S and WCUR become unspecified (R33, R35, D12): each gets a free value of the register's width (log 3). -/
def State.unspecify (c : Config) (s : State) : State :=
  { s with
    wcur := Config.freeW s.fresh
    regR := ((Config.freeR s.fresh).setWidth c.maxW).setWidth 128
    regVP := ((Config.freeVP s.fresh).setWidth c.maxW).setWidth 128
    regS := ((Config.freeS s.fresh).setWidth c.swMax).setWidth 7
    fresh := s.fresh + 1 }

/-- Load the working registers: a W-bit value goes to the low W bits of R and VP, and the bits above are cleared, as
R228 allows. DESIGN CHOICE (log 4), unsafe for a claim about those bits: no step reads a bit at or above W (R23). -/
def State.loadRegs (s : State) (w : Width) (x : BwRegs w.bits) : State :=
  { s with wcur := w, regR := onBus x.r, regVP := onBus x.vp, regS := x.s, rsp := none }

/-- `accept-BW` of R33: R <- v; VP <- shr_W(v, 1); S <- W-1; WCUR <- W; PHASE <- BUSY. -/
def State.acceptBW (s : State) (w : Width) (v : BitVec w.bits) : State :=
  { s.loadRegs w (bwInit v) with phase := .busy }

/-- `respond` in the step that takes the request (`accept-PAR`, `accept-LUT` of R33): the result in the low W bits of
the bus, zeros above (R66). PHASE stays IDLE and nothing else changes. -/
def State.respond (s : State) {n : Nat} (r : BitVec n) : State := { s with rsp := some (onBus r) }

/-- `iterate` of R33. -/
def State.iterate (s : State) : State := s.loadRegs s.wcur (bwStep s.bw)

/-- `complete` of R33: respond(shl_W(R, S)); PHASE <- IDLE; R, VP, S, WCUR become unspecified. -/
def State.complete (c : Config) (s : State) : State :=
  { s.unspecify c with phase := .idle, rsp := some (onBus (bwResult s.bw)) }

/-- The step of an operation in flight: `complete` when the low W bits of VP are 0, `iterate` otherwise (R33, R112). -/
def State.advance (c : Config) (s : State) : State := if s.bw.vp = 0 then s.complete c else s.iterate

/-- `idle` of R33: nothing changes, and no response is produced in this step. -/
def State.idleStep (s : State) : State := { s with rsp := none }

/-- The step with no request presented and `rst` at 0: `idle`, or the step of the operation in flight. -/
def State.quietStep (c : Config) (s : State) : State :=
  match s.phase with
  | .idle => s.idleStep
  | .busy => s.advance c

/-- `reset` of R33 (R220): PHASE <- IDLE from any PHASE; R, VP, S, WCUR become unspecified; an operation in flight is
dropped and no response is produced. -/
def State.resetStep (c : Config) (s : State) : State := { s.unspecify c with phase := .idle, rsp := none }

/-- The step in which an instruction's request is presented and `rst` is 0, `taken` being the state that taking it makes.
While BUSY the request is not taken: the requester holds it and the operation in flight goes on (R33; log 10). Whether
the build has the instruction is decode's concern, the one place that refuses (R12, R68). -/
def State.offer (c : Config) (s taken : State) : Host.Outcome State Fault Refusal :=
  match s.phase with
  | .busy => .next (s.advance c)
  | .idle => .next taken

/-- The shared form of every Bitwise operation: `accept-BW` at width `w`. -/
def State.offerBitwise (c : Config) (s : State) (w : Width) (v : BitVec w.bits) : Host.Outcome State Fault Refusal :=
  s.offer c (s.acceptBW w v)

/-- The shared form of every Parallel and Lookup operation: the result `r` in the step that takes the request. -/
def State.offerResult (c : Config) (s : State) {n : Nat} (r : BitVec n) : Host.Outcome State Fault Refusal :=
  s.offer c (s.respond r)

/-- The fixed width that pointer-width is bound to in a build (R75, R190). -/
def ptrWidth (c : Config) : Width := c.ptrW.width

/-- The operand of a pointer-width operation (R190): the low PTR_W bits, at the fixed width the build binds. -/
def ptrValue (c : Config) (v : BitVec 64) : BitVec (ptrWidth c).bits := v.setWidth (ptrWidth c).bits

end Sys2Proof.Machine
end

