-- ==== Sys2Proof/Machine/Bitwise.lean ====
section
/-! DEFINITION. Family BW: the unsigned Bitwise operations (spec 41_bitwise.md R107 to R111). The step that takes the request
loads the working registers; the later steps are `State.advance`. -/

namespace Sys2Proof.Machine

/-- `swap_bits.bitwise.uint8` (R107). -/
def execBitwiseUint8 (v : BitVec 8) (s : State) (c : Config := Config.build) : Host.Outcome State Fault Refusal :=
  s.offerBitwise c .w8 v

/-- `swap_bits.bitwise.uint16` (R108). -/
def execBitwiseUint16 (v : BitVec 16) (s : State) (c : Config := Config.build) : Host.Outcome State Fault Refusal :=
  s.offerBitwise c .w16 v

/-- `swap_bits.bitwise.uint32` (R109). -/
def execBitwiseUint32 (v : BitVec 32) (s : State) (c : Config := Config.build) : Host.Outcome State Fault Refusal :=
  s.offerBitwise c .w32 v

/-- `swap_bits.bitwise.uint64` (R110). -/
def execBitwiseUint64 (v : BitVec 64) (s : State) (c : Config := Config.build) : Host.Outcome State Fault Refusal :=
  s.offerBitwise c .w64 v

/-- `swap_bits.bitwise.uint128` (R111). -/
def execBitwiseUint128 (v : BitVec 128) (s : State) (c : Config := Config.build) : Host.Outcome State Fault Refusal :=
  s.offerBitwise c .w128 v

end Sys2Proof.Machine
end

