-- ==== Sys2Proof/Machine/Lookup.lean ====
section
/-! DEFINITION. Family LUT: the unsigned Lookup operations (spec 43_lookup.md R148 to R152): one step each. -/

namespace Sys2Proof.Machine

/-- `swap_bits.lookup.uint8` (R148). -/
def execLookupUint8 (v : BitVec 8) (s : State) (c : Config := Config.build) : Host.Outcome State Fault Refusal :=
  s.offerResult c (lookup 1 v)

/-- `swap_bits.lookup.uint16` (R149). -/
def execLookupUint16 (v : BitVec 16) (s : State) (c : Config := Config.build) : Host.Outcome State Fault Refusal :=
  s.offerResult c (lookup 2 v)

/-- `swap_bits.lookup.uint32` (R150). -/
def execLookupUint32 (v : BitVec 32) (s : State) (c : Config := Config.build) : Host.Outcome State Fault Refusal :=
  s.offerResult c (lookup 4 v)

/-- `swap_bits.lookup.uint64` (R151). -/
def execLookupUint64 (v : BitVec 64) (s : State) (c : Config := Config.build) : Host.Outcome State Fault Refusal :=
  s.offerResult c (lookup 8 v)

/-- `swap_bits.lookup.uint128` (R152). -/
def execLookupUint128 (v : BitVec 128) (s : State) (c : Config := Config.build) : Host.Outcome State Fault Refusal :=
  s.offerResult c (lookup 16 v)

end Sys2Proof.Machine
end

