-- ==== Sys2Proof/Machine/Parallel.lean ====
section
/-! DEFINITION. Family PAR: the unsigned Parallel operations (spec 42_parallel.md R129 to R133): one step each. -/

namespace Sys2Proof.Machine

/-- `swap_bits.parallel.uint8` (R129). -/
def execParallelUint8 (v : BitVec 8) (s : State) (c : Config := Config.build) : Host.Outcome State Fault Refusal :=
  s.offerResult c (parallel 1 v)

/-- `swap_bits.parallel.uint16` (R130). -/
def execParallelUint16 (v : BitVec 16) (s : State) (c : Config := Config.build) : Host.Outcome State Fault Refusal :=
  s.offerResult c (parallel 2 v)

/-- `swap_bits.parallel.uint32` (R131). -/
def execParallelUint32 (v : BitVec 32) (s : State) (c : Config := Config.build) : Host.Outcome State Fault Refusal :=
  s.offerResult c (parallel 4 v)

/-- `swap_bits.parallel.uint64` (R132). -/
def execParallelUint64 (v : BitVec 64) (s : State) (c : Config := Config.build) : Host.Outcome State Fault Refusal :=
  s.offerResult c (parallel 8 v)

/-- `swap_bits.parallel.uint128` (R133). -/
def execParallelUint128 (v : BitVec 128) (s : State) (c : Config := Config.build) : Host.Outcome State Fault Refusal :=
  s.offerResult c (parallel 16 v)

end Sys2Proof.Machine
end

