-- ==== Sys2Proof/Machine/Pointer.lean ====
section
/-! DEFINITION. Family PTR: the pointer-width operations (spec 45_pointer_width.md R192 to R197): the fixed-width operation at
PTR_W. -/

namespace Sys2Proof.Machine

/-- `swap_bits.bitwise.uintptr` (R192). -/
def execBitwiseUintptr (v : BitVec 64) (s : State) (c : Config := Config.build) : Host.Outcome State Fault Refusal :=
  s.offerBitwise c (ptrWidth c) (ptrValue c v)

/-- `swap_bits.parallel.uintptr` (R193). -/
def execParallelUintptr (v : BitVec 64) (s : State) (c : Config := Config.build) : Host.Outcome State Fault Refusal :=
  s.offerResult c (parallel (ptrWidth c).bytes (ptrValue c v))

/-- `swap_bits.lookup.uintptr` (R194). -/
def execLookupUintptr (v : BitVec 64) (s : State) (c : Config := Config.build) : Host.Outcome State Fault Refusal :=
  s.offerResult c (lookup (ptrWidth c).bytes (ptrValue c v))

/-- `swap_bits.bitwise.intptr` (R195). -/
def execBitwiseIntptr (v : BitVec 64) (s : State) (c : Config := Config.build) : Host.Outcome State Fault Refusal :=
  s.offerBitwise c (ptrWidth c) (toUnsigned (ptrValue c v))

/-- `swap_bits.parallel.intptr` (R196). -/
def execParallelIntptr (v : BitVec 64) (s : State) (c : Config := Config.build) : Host.Outcome State Fault Refusal :=
  s.offerResult c (signedAdapter (parallel (ptrWidth c).bytes) (ptrValue c v))

/-- `swap_bits.lookup.intptr` (R197). -/
def execLookupIntptr (v : BitVec 64) (s : State) (c : Config := Config.build) : Host.Outcome State Fault Refusal :=
  s.offerResult c (signedAdapter (lookup (ptrWidth c).bytes) (ptrValue c v))

end Sys2Proof.Machine
end

