-- ==== Sys2Proof/Machine/Signed.lean ====
section
/-! DEFINITION. Family SGN: the signed operations at fixed widths (spec 44_signed_adapter.md R166 to R180): the unsigned
algorithm inside the signedness adapter. A Bitwise operation goes in through `toUnsigned`; `to_signed` is the identity
on the bits its complete step puts on the bus, and the signedness of a request is not kept (R32). -/

namespace Sys2Proof.Machine

/-- `swap_bits.bitwise.int8` (R166). -/
def execBitwiseInt8 (v : BitVec 8) (s : State) (c : Config := Config.build) : Host.Outcome State Fault Refusal :=
  s.offerBitwise c .w8 (toUnsigned v)

/-- `swap_bits.parallel.int8` (R171). -/
def execParallelInt8 (v : BitVec 8) (s : State) (c : Config := Config.build) : Host.Outcome State Fault Refusal :=
  s.offerResult c (signedAdapter (parallel 1) v)

/-- `swap_bits.lookup.int8` (R176). -/
def execLookupInt8 (v : BitVec 8) (s : State) (c : Config := Config.build) : Host.Outcome State Fault Refusal :=
  s.offerResult c (signedAdapter (lookup 1) v)

/-- `swap_bits.bitwise.int16` (R167). -/
def execBitwiseInt16 (v : BitVec 16) (s : State) (c : Config := Config.build) : Host.Outcome State Fault Refusal :=
  s.offerBitwise c .w16 (toUnsigned v)

/-- `swap_bits.parallel.int16` (R172). -/
def execParallelInt16 (v : BitVec 16) (s : State) (c : Config := Config.build) : Host.Outcome State Fault Refusal :=
  s.offerResult c (signedAdapter (parallel 2) v)

/-- `swap_bits.lookup.int16` (R177). -/
def execLookupInt16 (v : BitVec 16) (s : State) (c : Config := Config.build) : Host.Outcome State Fault Refusal :=
  s.offerResult c (signedAdapter (lookup 2) v)

/-- `swap_bits.bitwise.int32` (R168). -/
def execBitwiseInt32 (v : BitVec 32) (s : State) (c : Config := Config.build) : Host.Outcome State Fault Refusal :=
  s.offerBitwise c .w32 (toUnsigned v)

/-- `swap_bits.parallel.int32` (R173). -/
def execParallelInt32 (v : BitVec 32) (s : State) (c : Config := Config.build) : Host.Outcome State Fault Refusal :=
  s.offerResult c (signedAdapter (parallel 4) v)

/-- `swap_bits.lookup.int32` (R178). -/
def execLookupInt32 (v : BitVec 32) (s : State) (c : Config := Config.build) : Host.Outcome State Fault Refusal :=
  s.offerResult c (signedAdapter (lookup 4) v)

/-- `swap_bits.bitwise.int64` (R169). -/
def execBitwiseInt64 (v : BitVec 64) (s : State) (c : Config := Config.build) : Host.Outcome State Fault Refusal :=
  s.offerBitwise c .w64 (toUnsigned v)

/-- `swap_bits.parallel.int64` (R174). -/
def execParallelInt64 (v : BitVec 64) (s : State) (c : Config := Config.build) : Host.Outcome State Fault Refusal :=
  s.offerResult c (signedAdapter (parallel 8) v)

/-- `swap_bits.lookup.int64` (R179). -/
def execLookupInt64 (v : BitVec 64) (s : State) (c : Config := Config.build) : Host.Outcome State Fault Refusal :=
  s.offerResult c (signedAdapter (lookup 8) v)

/-- `swap_bits.bitwise.int128` (R170). -/
def execBitwiseInt128 (v : BitVec 128) (s : State) (c : Config := Config.build) : Host.Outcome State Fault Refusal :=
  s.offerBitwise c .w128 (toUnsigned v)

/-- `swap_bits.parallel.int128` (R175). -/
def execParallelInt128 (v : BitVec 128) (s : State) (c : Config := Config.build) : Host.Outcome State Fault Refusal :=
  s.offerResult c (signedAdapter (parallel 16) v)

/-- `swap_bits.lookup.int128` (R180). -/
def execLookupInt128 (v : BitVec 128) (s : State) (c : Config := Config.build) : Host.Outcome State Fault Refusal :=
  s.offerResult c (signedAdapter (lookup 16) v)

end Sys2Proof.Machine
end

