-- ==== Sys2Proof/Machine/Dispatch.lean ====
section
/-! DEFINITION. The dispatch: one direct call of a meaning per constructor of `Instr`. -/

namespace Sys2Proof.Machine

def exec (i : Instr) (s : State) : Host.Outcome State Fault Refusal :=
  match i with
  | .bitwiseUint8 v => Sys2Proof.Machine.execBitwiseUint8 v s
  | .parallelUint8 v => Sys2Proof.Machine.execParallelUint8 v s
  | .lookupUint8 v => Sys2Proof.Machine.execLookupUint8 v s
  | .bitwiseUint16 v => Sys2Proof.Machine.execBitwiseUint16 v s
  | .parallelUint16 v => Sys2Proof.Machine.execParallelUint16 v s
  | .lookupUint16 v => Sys2Proof.Machine.execLookupUint16 v s
  | .bitwiseUint32 v => Sys2Proof.Machine.execBitwiseUint32 v s
  | .parallelUint32 v => Sys2Proof.Machine.execParallelUint32 v s
  | .lookupUint32 v => Sys2Proof.Machine.execLookupUint32 v s
  | .bitwiseUint64 v => Sys2Proof.Machine.execBitwiseUint64 v s
  | .parallelUint64 v => Sys2Proof.Machine.execParallelUint64 v s
  | .lookupUint64 v => Sys2Proof.Machine.execLookupUint64 v s
  | .bitwiseUint128 v => Sys2Proof.Machine.execBitwiseUint128 v s
  | .parallelUint128 v => Sys2Proof.Machine.execParallelUint128 v s
  | .lookupUint128 v => Sys2Proof.Machine.execLookupUint128 v s
  | .bitwiseUintptr v => Sys2Proof.Machine.execBitwiseUintptr v s
  | .parallelUintptr v => Sys2Proof.Machine.execParallelUintptr v s
  | .lookupUintptr v => Sys2Proof.Machine.execLookupUintptr v s
  | .bitwiseInt8 v => Sys2Proof.Machine.execBitwiseInt8 v s
  | .parallelInt8 v => Sys2Proof.Machine.execParallelInt8 v s
  | .lookupInt8 v => Sys2Proof.Machine.execLookupInt8 v s
  | .bitwiseInt16 v => Sys2Proof.Machine.execBitwiseInt16 v s
  | .parallelInt16 v => Sys2Proof.Machine.execParallelInt16 v s
  | .lookupInt16 v => Sys2Proof.Machine.execLookupInt16 v s
  | .bitwiseInt32 v => Sys2Proof.Machine.execBitwiseInt32 v s
  | .parallelInt32 v => Sys2Proof.Machine.execParallelInt32 v s
  | .lookupInt32 v => Sys2Proof.Machine.execLookupInt32 v s
  | .bitwiseInt64 v => Sys2Proof.Machine.execBitwiseInt64 v s
  | .parallelInt64 v => Sys2Proof.Machine.execParallelInt64 v s
  | .lookupInt64 v => Sys2Proof.Machine.execLookupInt64 v s
  | .bitwiseInt128 v => Sys2Proof.Machine.execBitwiseInt128 v s
  | .parallelInt128 v => Sys2Proof.Machine.execParallelInt128 v s
  | .lookupInt128 v => Sys2Proof.Machine.execLookupInt128 v s
  | .bitwiseIntptr v => Sys2Proof.Machine.execBitwiseIntptr v s
  | .parallelIntptr v => Sys2Proof.Machine.execParallelIntptr v s
  | .lookupIntptr v => Sys2Proof.Machine.execLookupIntptr v s

end Sys2Proof.Machine
end

