-- ==== Sys2Proof/Machine/Build.lean ====
section
/-! DEFINITION. The machine as a family over its builds (spec 10_state.md R28, R37): the two build parameters are arguments
of the dispatch, of the step relation of R33 and of the machine. -/

namespace Sys2Proof.Machine

/-- `exec` in the build `c`: the same meanings, with the build as an argument. -/
def execOf (c : Config) (i : Instr) (s : State) : Host.Outcome State Fault Refusal :=
  match i with
  | .bitwiseUint8 v => execBitwiseUint8 v s c
  | .parallelUint8 v => execParallelUint8 v s c
  | .lookupUint8 v => execLookupUint8 v s c
  | .bitwiseUint16 v => execBitwiseUint16 v s c
  | .parallelUint16 v => execParallelUint16 v s c
  | .lookupUint16 v => execLookupUint16 v s c
  | .bitwiseUint32 v => execBitwiseUint32 v s c
  | .parallelUint32 v => execParallelUint32 v s c
  | .lookupUint32 v => execLookupUint32 v s c
  | .bitwiseUint64 v => execBitwiseUint64 v s c
  | .parallelUint64 v => execParallelUint64 v s c
  | .lookupUint64 v => execLookupUint64 v s c
  | .bitwiseUint128 v => execBitwiseUint128 v s c
  | .parallelUint128 v => execParallelUint128 v s c
  | .lookupUint128 v => execLookupUint128 v s c
  | .bitwiseUintptr v => execBitwiseUintptr v s c
  | .parallelUintptr v => execParallelUintptr v s c
  | .lookupUintptr v => execLookupUintptr v s c
  | .bitwiseInt8 v => execBitwiseInt8 v s c
  | .parallelInt8 v => execParallelInt8 v s c
  | .lookupInt8 v => execLookupInt8 v s c
  | .bitwiseInt16 v => execBitwiseInt16 v s c
  | .parallelInt16 v => execParallelInt16 v s c
  | .lookupInt16 v => execLookupInt16 v s c
  | .bitwiseInt32 v => execBitwiseInt32 v s c
  | .parallelInt32 v => execParallelInt32 v s c
  | .lookupInt32 v => execLookupInt32 v s c
  | .bitwiseInt64 v => execBitwiseInt64 v s c
  | .parallelInt64 v => execParallelInt64 v s c
  | .lookupInt64 v => execLookupInt64 v s c
  | .bitwiseInt128 v => execBitwiseInt128 v s c
  | .parallelInt128 v => execParallelInt128 v s c
  | .lookupInt128 v => execLookupInt128 v s c
  | .bitwiseIntptr v => execBitwiseIntptr v s c
  | .parallelIntptr v => execParallelIntptr v s c
  | .lookupIntptr v => execLookupIntptr v s c

/-- One step of R33 in the build `c`, with `ex` as the dispatch. `rst` asserted: the reset step, in any PHASE (R203). No
request: `idle`, or the operation in flight goes on. A request while BUSY: it is held, and the operation in flight goes
on. A request while IDLE: it is decoded, and taken or refused. -/
def stepWith (c : Config) (ex : Instr → State → Host.Outcome State Fault Refusal) (s : State) :
    Host.Outcome State Fault Refusal :=
  match s.wires with
  | ⟨true, _⟩ => .next (s.passPorts.resetStep c)
  | ⟨false, none⟩ => .next (s.passPorts.quietStep c)
  | ⟨false, some q⟩ =>
    match s.phase with
    | .busy => .next (s.passPorts.advance c)
    | .idle =>
      match decode c q with
      | .ok i => ex i s.passPorts
      | .error why => .refused (.reservedSelector why)

/-- The step relation of R33 in the build `c`. -/
def stepOf (c : Config) (s : State) : Host.Outcome State Fault Refusal := stepWith c (execOf c) s

/-- The machine of the build `c`. -/
abbrev machineOf (c : Config) : Host.Core :=
  { State := State, Fault := Fault, Refusal := Refusal, step := stepOf c, reset := State.reset }

end Sys2Proof.Machine
end

