-- ==== Sys2Proof/Machine/Step.lean ====
section
/-! DEFINITION. One step of the machine (spec 10_state.md R33), in the build at hand. -/

namespace Sys2Proof.Machine

/-- One step of R33. -/
def step (s : State) : Host.Outcome State Fault Refusal := stepWith Config.build exec s

/-- The machine with the request that `w` spells on its ports, `rst` at 0 and PHASE = IDLE, so that the very next step
takes that request (R33). It stands for the requester presenting it (log 6). -/
def State.withFetchWord (s : State) (nbits w : Nat) : State :=
  { s with phase := .idle, rstIn := false :: s.rstIn, reqIn := some (Request.ofWord nbits w) :: s.reqIn }

end Sys2Proof.Machine
end

