-- ==== Sys2Proof/Safety.lean ====
section
/-! DEFINITION. The terms that claims about a run use: what taking a Bitwise request leaves, the invariant of an
operation in flight (spec 41_bitwise.md R101), registers and responses that fit their wires, and when two states cannot
be told apart from the ports. -/

namespace Sys2Proof.Machine

/-- The registers after `j` passes of the Bitwise loop on operand `v`, bit by bit, as R101 lists them. -/
def AfterIterations {n : Nat} (v : BitVec n) (j : Nat) (x : BwRegs n) : Prop :=
  x.vp = v >>> (j + 1) ∧ x.s.toNat = n - 1 - j ∧
    ∀ i, i < n → x.r.getLsbD i = if i < j then v.getLsbD (j - i) else v.getLsbD (i - j)

/-- `t` is `s` after `accept-BW` of `v` at width `w` (R33), with nothing said of the register bits at or above `w`,
which no step reads (R23). The input ports and the free-value counter are unchanged. -/
def TookBitwise (s t : State) (w : Width) (v : BitVec w.bits) : Prop :=
  t.phase = .busy ∧ t.wcur = w ∧ lowBits w t.regR = v ∧ lowBits w t.regVP = v >>> 1 ∧
    t.regS.toNat = w.bits - 1 ∧ t.rsp = none ∧ t.rstIn = s.rstIn ∧ t.reqIn = s.reqIn ∧ t.fresh = s.fresh

/-- A BUSY block of the build `c` is in the middle of a Bitwise operation that the build has: for some operand `v` of
width WCUR and some `j` not beyond the iteration count of `v`, its registers are those after `j` iterations (R101,
R103). -/
def InFlight (c : Config) (s : State) : Prop :=
  s.phase = .busy → c.hasWidth s.wcur = true ∧
    ∃ (v : BitVec s.wcur.bits) (j : Nat), j ≤ iters v ∧ AfterIterations v j s.bw

/-- R and VP have no bit at or above MAXW, S none at or above SW(MAXW), and a response none at or above DATA_W (R9, R22,
R34). -/
def FitsTheWires (c : Config) (s : State) : Prop :=
  s.regR.toNat < 2 ^ c.maxW ∧ s.regVP.toNat < 2 ^ c.maxW ∧ s.regS.toNat < 2 ^ c.swMax ∧
    ∀ d, s.rsp = some d → d.toNat < 2 ^ c.dataW

/-- `rst` is 0 in each of the coming `k` steps. -/
def NoResetIn (k : Nat) (s : State) : Prop := ∀ b ∈ s.rstIn.take k, b = false

/-- Two states that differ only in what no step reads: the working registers of an idle block, the register bits above
the width of the operation in flight, and the free-value counter (R21, R39). -/
def SameView (s t : State) : Prop :=
  s.phase = t.phase ∧ s.rsp = t.rsp ∧ s.rstIn = t.rstIn ∧ s.reqIn = t.reqIn ∧
    (s.phase = .busy → s.wcur = t.wcur ∧ lowBits s.wcur s.regR = lowBits s.wcur t.regR ∧
      lowBits s.wcur s.regVP = lowBits s.wcur t.regVP ∧ s.regS = t.regS)

/-- Two outcomes that a requester cannot tell apart. -/
def SameOutcome : Host.Outcome State Fault Refusal → Host.Outcome State Fault Refusal → Prop
  | .next s, .next t => SameView s t
  | .refused a, .refused b => a = b
  | _, _ => False

end Sys2Proof.Machine
end

