-- ==== Sys2Proof/Certificates/Slice0/Obligations.lean ====
section
/-! DEFINITION. The statements about the block. Where a statement formalises a numbered rule whole, its docstring names
the rule; the others rest on the rules named and say so. -/

open Sys2Proof Sys2Proof.Machine

/-! ### The function and the three algorithms -/

/-- Rests on 40_contract.md section 1 (R80): bit i of `rev_W(v)` is bit W-1-i of v, and in numbers it is the sum over i of
v[i] * 2^(W-1-i). -/
def Obligations.ReversalByBitsAndByNumber : Prop :=
  ∀ (w : Width) (v : BitVec w.bits),
    (∀ i, i < w.bits → (rev v).getLsbD i = v.getLsbD (w.bits - 1 - i)) ∧
    uval (rev v) = ((List.range w.bits).map fun i => (v.getLsbD i).toNat * 2 ^ (w.bits - 1 - i)).sum

/-- R83, whole: every algorithm is its own inverse, and `rev_W` is a bijection and its own inverse. -/
def Obligations.EveryAlgorithmIsAnInvolution : Prop :=
  ∀ w : Width,
    (∀ v : BitVec w.bits, bitwise (bitwise v) = v ∧ parallel w.bytes (parallel w.bytes v) = v ∧
      lookup w.bytes (lookup w.bytes v) = v ∧ rev (rev v) = v) ∧
    Function.Bijective (rev : BitVec w.bits → BitVec w.bits)

/-- R84, whole: the three algorithms agree on every operand of every width, and each is `rev_W`. -/
def Obligations.AlgorithmsAgreeAndReverse : Prop :=
  ∀ (w : Width) (v : BitVec w.bits),
    bitwise v = parallel w.bytes v ∧ parallel w.bytes v = lookup w.bytes v ∧
      bitwise v = rev v ∧ parallel w.bytes v = rev v ∧ lookup w.bytes v = rev v

/-- Rests on 40_contract.md section 2 (R85): 0 and all-ones are fixed by every algorithm at every width. That the fixed
points of `rev_W` are the palindromes, 2^(W/2) of them, the spec marks as its own inference ("[derived: from rule R80]"). -/
def Obligations.FixedPointsArePalindromes : Prop :=
  ∀ w : Width,
    (∀ v : BitVec w.bits, v = 0 ∨ v = BitVec.allOnes w.bits →
      bitwise v = v ∧ parallel w.bytes v = v ∧ lookup w.bytes v = v) ∧
    (∀ v : BitVec w.bits, rev v = v ↔ ∀ i, i < w.bits → v.getLsbD i = v.getLsbD (w.bits - 1 - i)) ∧
    Nat.card { v : BitVec w.bits // rev v = v } = 2 ^ (w.bits / 2)

/-- An inference the spec marks as its own (40_contract.md R94, "[derived: from rule R80]"): byte NB-1-k of the reversal
is the reversal of byte k; `rev_W` is the byte-swap after reversing inside each byte, and the two inner steps commute. -/
def Obligations.ReversalByteByByte : Prop :=
  ∀ (w : Width) (v : BitVec w.bits),
    (∀ k, k < w.bytes → byteOf (rev v) (w.bytes - 1 - k) = rev (byteOf v k)) ∧
    rev v = bswap w.bytes (ofBytes w.bytes fun k => rev (byteOf v k)) ∧
    rev v = ofBytes w.bytes fun k => rev (byteOf (bswap w.bytes v) k)

/-- Inferences the spec marks as its own (40_contract.md R95, "Further consequences a model may want as lemmas"): the
reversal distributes over AND and OR, turns left shifts into right shifts and back, keeps the number of 1 bits, turns
leading zeros into trailing zeros, moves a single bit, and reverses a concatenation half by half. -/
def Obligations.ReversalCommutesWithBitOperations : Prop :=
  (∀ (w : Width) (a b : BitVec w.bits), rev (a &&& b) = rev a &&& rev b ∧ rev (a ||| b) = rev a ||| rev b) ∧
  (∀ (w : Width) (v : BitVec w.bits) (k : Nat), k < w.bits →
    rev (v <<< k) = rev v >>> k ∧ rev (v >>> k) = rev v <<< k) ∧
  (∀ (w : Width) (v : BitVec w.bits),
    (List.range w.bits).countP (fun i => (rev v).getLsbD i) = (List.range w.bits).countP fun i => v.getLsbD i) ∧
  (∀ (w : Width) (v : BitVec w.bits) (z : Nat), z ≤ w.bits →
    ((∀ i, i < z → v.getLsbD (w.bits - 1 - i) = false) ↔ ∀ i, i < z → (rev v).getLsbD i = false)) ∧
  (∀ (w : Width) (i : Nat), i < w.bits →
    rev (BitVec.twoPow w.bits i) = BitVec.twoPow w.bits (w.bits - 1 - i)) ∧
  (∀ (w : Width) (a b : BitVec w.bits), rev (a ++ b) = rev b ++ rev a)

/-- R93, whole: the byte-swap is an involution, is the identity at width 8, and takes bit j of byte k to bit j of byte
NB(W)-1-k. -/
def Obligations.ByteSwapMovesWholeBytes : Prop :=
  (∀ (w : Width) (v : BitVec w.bits), bswap w.bytes (bswap w.bytes v) = v ∧
    ∀ k j, k < w.bytes → j < 8 →
      (bswap w.bytes v).getLsbD (8 * (w.bytes - 1 - k) + j) = v.getLsbD (8 * k + j)) ∧
  ∀ v : BitVec 8, bswap 1 v = v

/-- Rests on 42_parallel.md section 1 (R121): the closed form of the three masks, bit by bit at every width. -/
def Obligations.MasksSelectTheLowGroups : Prop :=
  ∀ (w : Width) (i : Nat), i < w.bits →
    (mask1 w.bytes).getLsbD i = decide (i % 2 = 0) ∧
    (mask2 w.bytes).getLsbD i = decide (i % 4 < 2) ∧
    (mask4 w.bytes).getLsbD i = decide (i % 8 < 4)

/-- R122, whole: each pass exchanges the two k-bit halves of every aligned group of 2k bits; it is an involution, and it
permutes bit positions (position i takes the bit at i XOR k). -/
def Obligations.PassExchangesNeighbouringGroups : Prop :=
  ∀ (w : Width) (k : Nat) (m : BitVec w.bits),
    (k = 1 ∧ m = mask1 w.bytes) ∨ (k = 2 ∧ m = mask2 w.bytes) ∨ (k = 4 ∧ m = mask4 w.bytes) →
    ∀ x : BitVec w.bits, swapPass k m (swapPass k m x) = x ∧
      ∀ i, i < w.bits →
        (swapPass k m x).getLsbD i = (if i % (2 * k) < k then x.getLsbD (i + k) else x.getLsbD (i - k)) ∧
        (swapPass k m x).getLsbD i = x.getLsbD (i ^^^ k)

/-- An inference the spec marks as its own (42_parallel.md R124, "[derived: from rule R121 and rule R123]"): the left
shift of a pass pushes nothing past the top, and the two terms of a pass have disjoint support (the left one inside
the mask, the right one outside it), so that the pass, which is the OR of the two, is also their sum. The expression
of a pass, with its two terms, is that of R123, general knowledge by the spec's own mark (log 11). -/
def Obligations.PassLosesNothing : Prop :=
  ∀ (w : Width) (k : Nat) (m : BitVec w.bits),
    (k = 1 ∧ m = mask1 w.bytes) ∨ (k = 2 ∧ m = mask2 w.bytes) ∨ (k = 4 ∧ m = mask4 w.bytes) →
    ∀ x : BitVec w.bits,
      swapPass k m x = (x >>> k &&& m) ||| (x &&& m) <<< k ∧
      uval (swapPass k m x) = uval (x >>> k &&& m) + uval ((x &&& m) <<< k) ∧
      uval ((x &&& m) <<< k) = uval (x &&& m) * 2 ^ k ∧
      (x >>> k &&& m) &&& ((x &&& m) <<< k) = 0 ∧
      (x >>> k &&& m) &&& m = x >>> k &&& m ∧ ((x &&& m) <<< k) &&& m = 0

/-- An inference the spec marks as its own (42_parallel.md R134): after the three passes every byte has its bits reversed
in place, the byte-swap then makes `rev_W`, and the three passes and the byte-swap commute, each with each. -/
def Obligations.ThreePassesReverseEachByte : Prop :=
  ∀ (w : Width) (v : BitVec w.bits),
    (∀ k, k < w.bytes → byteOf (swapPasses w.bytes v) k = rev (byteOf v k)) ∧
    bswap w.bytes (swapPasses w.bytes v) = rev v ∧
    bswap w.bytes (swapPasses w.bytes v) = swapPasses w.bytes (bswap w.bytes v) ∧
    swapPass 1 (mask1 w.bytes) (swapPass 2 (mask2 w.bytes) v) = swapPass 2 (mask2 w.bytes) (swapPass 1 (mask1 w.bytes) v) ∧
    swapPass 1 (mask1 w.bytes) (swapPass 4 (mask4 w.bytes) v) = swapPass 4 (mask4 w.bytes) (swapPass 1 (mask1 w.bytes) v) ∧
    swapPass 2 (mask2 w.bytes) (swapPass 4 (mask4 w.bytes) v) = swapPass 4 (mask4 w.bytes) (swapPass 2 (mask2 w.bytes) v) ∧
    bswap w.bytes (swapPass 1 (mask1 w.bytes) v) = swapPass 1 (mask1 w.bytes) (bswap w.bytes v) ∧
    bswap w.bytes (swapPass 2 (mask2 w.bytes) v) = swapPass 2 (mask2 w.bytes) (bswap w.bytes v) ∧
    bswap w.bytes (swapPass 4 (mask4 w.bytes) v) = swapPass 4 (mask4 w.bytes) (bswap w.bytes v)

/-- Rests on 20_memory.md section 2: the listing of the ROM holds `rev_8` of each index, bit by bit, and looking up twice
gives the index back (R42, R43). -/
def Obligations.RomHoldsTheReversals : Prop :=
  ∀ i : Byte, romRead i = rev i ∧ (∀ j, j < 8 → (romRead i).getLsbD j = i.getLsbD (7 - j)) ∧ romRead (romRead i) = i

/-- Rests on 20_memory.md sections 1 and 4 (R41, R46, R48): the ROM has an entry at the indices 0 to 255 and nowhere else. -/
def Obligations.RomIsPopulatedExactlyBelow256 : Prop :=
  ∀ a : Nat, (memRead rom a).isSome = true ↔ a < 256

/-- R140, R143, whole: a Lookup operation reads NB(W) entries, the index of read k being byte k of the operand, and the
entry read for byte k becomes byte NB(W)-1-k of the result; looking up and then reversing the order of the bytes
equals reversing and then looking up. At width 8 it is a single read. -/
def Obligations.LookupReadsAndPlacesEveryByte : Prop :=
  (∀ (w : Width) (v : BitVec w.bits), (lookupReads w.bytes v).length = w.bytes ∧
    ∀ k, k < w.bytes → (lookupReads w.bytes v)[k]? = some (byteOf v k) ∧
      ∀ i, (lookupReads w.bytes v)[k]? = some i → byteOf (lookup w.bytes v) (w.bytes - 1 - k) = romRead i) ∧
  (∀ (w : Width) (v : BitVec w.bits),
    lookup w.bytes v = bswap w.bytes (ofBytes w.bytes fun k => romRead (byteOf v k)) ∧
    lookup w.bytes v = ofBytes w.bytes fun k => romRead (byteOf (bswap w.bytes v) k)) ∧
  ∀ v : BitVec 8, lookup 1 v = romRead v

/-- An inference the spec marks as its own (41_bitwise.md R101): the registers after j passes of the loop, for every j up
to W-1, whether or not the loop goes on; the loop stops at the first n with no bit of v above n; the result is
`rev_W(v)`. -/
def Obligations.LoopInvariantAndResult : Prop :=
  ∀ (w : Width) (v : BitVec w.bits),
    (∀ j, j < w.bits → AfterIterations v j (bwStep^[j] (bwInit v))) ∧
    (∃ n, n < w.bits ∧ v >>> (n + 1) = 0 ∧ (∀ j, j < n → v >>> (j + 1) ≠ 0) ∧
      bwLoop w.bits (bwInit v) = bwStep^[n] (bwInit v)) ∧
    bitwise v = rev v

/-- An inference the spec marks as its own (41_bitwise.md R102): the loop body runs `iters_W(v)` times: the loop test holds
before each of them and fails after them. The count is 0 for 0 and 1 and else the index of the highest 1 bit, and S
ends at W-1 less the count. -/
def Obligations.LoopRunsToTheHighestSetBit : Prop :=
  ∀ (w : Width) (v : BitVec w.bits),
    bwLoop w.bits (bwInit v) = bwStep^[iters v] (bwInit v) ∧
    (∀ j, j < iters v → (bwStep^[j] (bwInit v)).vp ≠ 0) ∧ (bwLoop w.bits (bwInit v)).vp = 0 ∧
    (uval v ≤ 1 → iters v = 0) ∧
    (1 < uval v → v.getLsbD (iters v) = true ∧ ∀ k, iters v < k → v.getLsbD k = false) ∧
    (bwLoop w.bits (bwInit v)).s.toNat = w.bits - 1 - iters v

/-- Inferences the spec marks as its own (41_bitwise.md R103, 40_contract.md R91): the count is at most W-1, reached
exactly by the operands whose top bit is 1, and 0 exactly for 0 and 1; S stays below W and is never decremented at 0. -/
def Obligations.IterationCountBounds : Prop :=
  ∀ (w : Width) (v : BitVec w.bits),
    iters v ≤ w.bits - 1 ∧ (iters v = w.bits - 1 ↔ v.msb = true) ∧ (iters v = 0 ↔ v = 0 ∨ v = 1) ∧
    ∀ j, j ≤ iters v → (bwStep^[j] (bwInit v)).s.toNat < w.bits ∧
      ((bwStep^[j] (bwInit v)).vp ≠ 0 → (bwStep^[j] (bwInit v)).s.toNat ≠ 0)

/-- Inferences the spec marks as its own (41_bitwise.md R105): the corner cases of the table, at every width: iterations,
R and S at exit, and the result, for the operands 0, 1, 2, 2^(W-1), all-ones and 2^(W-1)-1. -/
def Obligations.BitwiseCornerCases : Prop :=
  ∀ (w : Width), ∀ row ∈
      [(0, 0, 0, w.bits - 1, 0), (1, 0, 1, w.bits - 1, 2 ^ (w.bits - 1)), (2, 1, 5, w.bits - 2, 2 ^ (w.bits - 2)),
        (2 ^ (w.bits - 1), w.bits - 1, 1, 0, 1),
        (2 ^ w.bits - 1, w.bits - 1, 2 ^ w.bits - 1, 0, 2 ^ w.bits - 1),
        (2 ^ (w.bits - 1) - 1, w.bits - 2, 2 ^ w.bits - 1, 1, 2 ^ w.bits - 2)],
    match row with
    | (v, n, r, s, result) =>
      iters (BitVec.ofNat w.bits v) = n ∧ uval (bwLoop w.bits (bwInit (BitVec.ofNat w.bits v))).r = r ∧
        (bwLoop w.bits (bwInit (BitVec.ofNat w.bits v))).s.toNat = s ∧
        uval (bitwise (BitVec.ofNat w.bits v)) = result

/-- An inference the spec marks as its own (44_signed_adapter.md R163): the signed reading of the result. It is negative
exactly when the operand is odd, a negative operand gives an odd result, and the particular values hold at every
width. -/
def Obligations.SignedReadingOfTheResult : Prop :=
  ∀ (w : Width) (v : BitVec w.bits),
    (sval (rev v) < 0 ↔ uval v % 2 = 1) ∧ (sval v < 0 → uval (rev v) % 2 = 1) ∧
    (sval v = 1 → sval (rev v) = -2 ^ (w.bits - 1)) ∧ (sval v = -2 ^ (w.bits - 1) → sval (rev v) = 1) ∧
    (sval v = -1 → sval (rev v) = -1) ∧ (sval v = 0 → sval (rev v) = 0) ∧
    (sval v = 2 ^ (w.bits - 1) - 1 → sval (rev v) = -2) ∧ (sval v = -2 → sval (rev v) = 2 ^ (w.bits - 1) - 1)

/-- Rests on 44_signed_adapter.md section 1 (R161) and on the two's-complement reading `sval` of R16, which the spec marks
as general knowledge (log 12). The reinterpretations keep the bits: the unsigned reading is the signed one modulo 2^W,
the signed one when that is not negative and 2^W more when it is; each undoes the other; and the readings are
bijections onto 0 to 2^W-1 and -2^(W-1) to 2^(W-1)-1. -/
def Obligations.ReinterpretationKeepsTheBits : Prop :=
  ∀ (w : Width) (p : BitVec w.bits),
    (uval (toUnsigned p) : Int) = sval p % 2 ^ w.bits ∧
    (uval (toUnsigned p) : Int) = (if sval p < 0 then sval p + 2 ^ w.bits else sval p) ∧
    toSigned (toUnsigned p) = p ∧ toUnsigned (toSigned p) = p ∧
    (-2 ^ (w.bits - 1) ≤ sval p ∧ sval p < 2 ^ (w.bits - 1) ∧ uval p < 2 ^ w.bits) ∧
    (∀ n : Nat, n < 2 ^ w.bits → ∃! q : BitVec w.bits, uval q = n) ∧
    ∀ z : Int, -2 ^ (w.bits - 1) ≤ z → z < 2 ^ (w.bits - 1) → ∃! q : BitVec w.bits, sval q = z

/-! ### The request, the decoder and the encoder -/

/-- Decode and encode agree (30_encoding.md sections 2 to 4): every well-formed instruction of every build is decoded from
its encoding, with every operand, and that encoding is a well-formed request, which fits the bus of the build (R9, R61). -/
def Obligations.DecodeOfEncodeIsTheInstruction : Prop :=
  ∀ (c : Config) (i : Instr), i.wf c = true → decode c (encode i) = .ok i ∧ (encode i).wf c = true

/-- The other direction (30_encoding.md sections 3 and 4): a request that decodes gives a well-formed instruction of the
effective width, whose encoding has the same selector and the same low W bits of data. -/
def Obligations.EncodeOfDecodeIsTheRequest : Prop :=
  ∀ (c : Config) (q : Request) (i : Instr), decode c q = .ok i →
    i.wf c = true ∧ c.hasWidth (i.width c) = true ∧ (encode i).op = q.op ∧
      (encode i).data = onBus (lowBits (i.width c) q.data)

/-- Rests on 30_encoding.md section 4 (R67): the operation map. In a build with EN128 the 36 listed codes name these
operations, and no other code names one. -/
def Obligations.OperationMapHasThirtySixCodes : Prop :=
  ∀ (c : Config) (op : BitVec 6) (o : Operation), c.en128 = true →
    (decodeOp c op = .ok o ↔ (op, o) ∈
      ([(0x00#6, ⟨.bitwise, .fixed .w8, .unsigned⟩),
      (0x01#6, ⟨.parallel, .fixed .w8, .unsigned⟩),
      (0x02#6, ⟨.lookup, .fixed .w8, .unsigned⟩),
      (0x04#6, ⟨.bitwise, .fixed .w16, .unsigned⟩),
      (0x05#6, ⟨.parallel, .fixed .w16, .unsigned⟩),
      (0x06#6, ⟨.lookup, .fixed .w16, .unsigned⟩),
      (0x08#6, ⟨.bitwise, .fixed .w32, .unsigned⟩),
      (0x09#6, ⟨.parallel, .fixed .w32, .unsigned⟩),
      (0x0A#6, ⟨.lookup, .fixed .w32, .unsigned⟩),
      (0x0C#6, ⟨.bitwise, .fixed .w64, .unsigned⟩),
      (0x0D#6, ⟨.parallel, .fixed .w64, .unsigned⟩),
      (0x0E#6, ⟨.lookup, .fixed .w64, .unsigned⟩),
      (0x10#6, ⟨.bitwise, .fixed .w128, .unsigned⟩),
      (0x11#6, ⟨.parallel, .fixed .w128, .unsigned⟩),
      (0x12#6, ⟨.lookup, .fixed .w128, .unsigned⟩),
      (0x14#6, ⟨.bitwise, .pointer, .unsigned⟩),
      (0x15#6, ⟨.parallel, .pointer, .unsigned⟩),
      (0x16#6, ⟨.lookup, .pointer, .unsigned⟩),
      (0x20#6, ⟨.bitwise, .fixed .w8, .signed⟩),
      (0x21#6, ⟨.parallel, .fixed .w8, .signed⟩),
      (0x22#6, ⟨.lookup, .fixed .w8, .signed⟩),
      (0x24#6, ⟨.bitwise, .fixed .w16, .signed⟩),
      (0x25#6, ⟨.parallel, .fixed .w16, .signed⟩),
      (0x26#6, ⟨.lookup, .fixed .w16, .signed⟩),
      (0x28#6, ⟨.bitwise, .fixed .w32, .signed⟩),
      (0x29#6, ⟨.parallel, .fixed .w32, .signed⟩),
      (0x2A#6, ⟨.lookup, .fixed .w32, .signed⟩),
      (0x2C#6, ⟨.bitwise, .fixed .w64, .signed⟩),
      (0x2D#6, ⟨.parallel, .fixed .w64, .signed⟩),
      (0x2E#6, ⟨.lookup, .fixed .w64, .signed⟩),
      (0x30#6, ⟨.bitwise, .fixed .w128, .signed⟩),
      (0x31#6, ⟨.parallel, .fixed .w128, .signed⟩),
      (0x32#6, ⟨.lookup, .fixed .w128, .signed⟩),
      (0x34#6, ⟨.bitwise, .pointer, .signed⟩),
      (0x35#6, ⟨.parallel, .pointer, .signed⟩),
      (0x36#6, ⟨.lookup, .pointer, .signed⟩)] : List (BitVec 6 × Operation)))

/-- Rests on 30_encoding.md sections 4 and 5 (R68, R69; R74, which the spec marks as derived): a selector is refused
exactly when ALG is 11, or WSEL is 110 or 111, or WSEL is 100 without EN128: 28 codes with EN128, 34 without. The
reason named is the first of these that holds. -/
def Obligations.ReservedSelectorsAreExactlyThese : Prop :=
  (∀ (c : Config) (op : BitVec 6),
    (decodeOp c op = .error .alg ↔ op.extractLsb' 0 2 = 0b11#2) ∧
    (decodeOp c op = .error .wsel ↔
      op.extractLsb' 0 2 ≠ 0b11#2 ∧ (op.extractLsb' 2 3 = 0b110#3 ∨ op.extractLsb' 2 3 = 0b111#3)) ∧
    (decodeOp c op = .error .width128 ↔
      op.extractLsb' 0 2 ≠ 0b11#2 ∧ op.extractLsb' 2 3 = 0b100#3 ∧ c.en128 = false)) ∧
  ∀ p : PtrWidth,
    (List.range 64).countP (fun n => (decodeOp ⟨true, p⟩ (BitVec.ofNat 6 n)).toOption.isNone) = 28 ∧
    (List.range 64).countP (fun n => (decodeOp ⟨false, p⟩ (BitVec.ofNat 6 n)).toOption.isNone) = 34

/-- Rests on 30_encoding.md section 5 (R69): leaving out width 128 changes no other selector: a code whose WSEL is not 100
decodes to the same operation with EN128 and without. -/
def Obligations.OtherWidthsDecodeAlikeWithoutEn128 : Prop :=
  ∀ (p : PtrWidth) (op : BitVec 6), op.extractLsb' 2 3 ≠ 0b100#3 → decodeOp ⟨true, p⟩ op = decodeOp ⟨false, p⟩ op

/-- Rests on 30_encoding.md sections 2 to 5: words written out from the fields SGN, WSEL, ALG decode to the operation they
stand for, the operand being the low W bits of the bus. -/
def Obligations.WrittenOutWordsDecode : Prop :=
  decode ⟨true, .p32⟩ ⟨0b000000#6, 0xAB#128⟩ = .ok (.bitwiseUint8 0xAB#8) ∧
  decode ⟨true, .p32⟩ ⟨0b001001#6, 0xABCD2345#128⟩ = .ok (.parallelUint32 0xABCD2345#32) ∧
  decode ⟨true, .p32⟩ ⟨0b000110#6, 0x123456789ABCABCD#128⟩ = .ok (.lookupUint16 0xABCD#16) ∧
  decode ⟨true, .p32⟩ ⟨0b101101#6, 0xFFFFFFFFFFFFFFFE#128⟩ = .ok (.parallelInt64 0xFFFFFFFFFFFFFFFE#64) ∧
  decode ⟨true, .p32⟩ ⟨0b110100#6, 0xABCD2345ABCD2345#128⟩ = .ok (.bitwiseIntptr 0xABCD2345#64) ∧
  decode ⟨true, .p32⟩ ⟨0b010010#6, 0x1#128⟩ = .ok (.lookupUint128 0x1#128) ∧
  decode ⟨false, .p32⟩ ⟨0b010010#6, 0x1#128⟩ = .error .width128 ∧
  decode ⟨true, .p32⟩ ⟨0b011010#6, 0x1#128⟩ = .error .wsel ∧
  decode ⟨true, .p32⟩ ⟨0b000011#6, 0x1#128⟩ = .error .alg

/-- Rests on 30_encoding.md section 3 (R65): bits of `req_data` at or above the effective width may hold anything and
affect nothing. -/
def Obligations.DataBitsAboveTheWidthAreIgnored : Prop :=
  ∀ (c : Config) (op : BitVec 6) (o : Operation) (d e : Bus), decodeOp c op = .ok o →
    lowBits (o.width.width c) d = lowBits (o.width.width c) e → decode c ⟨op, d⟩ = decode c ⟨op, e⟩

/-! ### What each instruction does to an idle block -/

/-- Rests on 10_state.md section 5 (`accept-BW` of R33) and 41_bitwise.md section 2 (R107 to R111): an idle block takes each
unsigned Bitwise request: PHASE is BUSY, WCUR is W, R holds the operand, VP the operand shifted right by one, S is W-1,
nothing responds, and nothing else changes. (Width 128 exists only with EN128: else no request decodes to it.) -/
def Obligations.BitwiseUnsignedTakesTheRequest : Prop :=
  ∀ s : State, s.phase = .idle →
    (∀ v, ∃ t, exec (.bitwiseUint8 v) s = .next t ∧ TookBitwise s t .w8 v) ∧
    (∀ v, ∃ t, exec (.bitwiseUint16 v) s = .next t ∧ TookBitwise s t .w16 v) ∧
    (∀ v, ∃ t, exec (.bitwiseUint32 v) s = .next t ∧ TookBitwise s t .w32 v) ∧
    (∀ v, ∃ t, exec (.bitwiseUint64 v) s = .next t ∧ TookBitwise s t .w64 v) ∧
    (∀ v, ∃ t, exec (.bitwiseUint128 v) s = .next t ∧ TookBitwise s t .w128 v)

/-- Rests on 10_state.md section 5 (`accept-BW` of R33) and 44_signed_adapter.md (R160, R166 to R170): an idle block takes
each signed Bitwise request with the same bits. -/
def Obligations.BitwiseSignedTakesTheRequest : Prop :=
  ∀ s : State, s.phase = .idle →
    (∀ v, ∃ t, exec (.bitwiseInt8 v) s = .next t ∧ TookBitwise s t .w8 v) ∧
    (∀ v, ∃ t, exec (.bitwiseInt16 v) s = .next t ∧ TookBitwise s t .w16 v) ∧
    (∀ v, ∃ t, exec (.bitwiseInt32 v) s = .next t ∧ TookBitwise s t .w32 v) ∧
    (∀ v, ∃ t, exec (.bitwiseInt64 v) s = .next t ∧ TookBitwise s t .w64 v) ∧
    (∀ v, ∃ t, exec (.bitwiseInt128 v) s = .next t ∧ TookBitwise s t .w128 v)

/-- Rests on 45_pointer_width.md (R190, R192, R195): an idle block takes a pointer-width Bitwise request as one of width
PTR_W, in the build at hand and in every build. -/
def Obligations.BitwisePointerTakesTheRequest : Prop :=
  ∀ s : State, s.phase = .idle → ∀ v : BitVec 64,
    (∃ t, exec (.bitwiseUintptr v) s = .next t ∧
      TookBitwise s t Config.build.ptrW.width (v.setWidth Config.build.ptrW.width.bits)) ∧
    (∃ t, exec (.bitwiseIntptr v) s = .next t ∧
      TookBitwise s t Config.build.ptrW.width (v.setWidth Config.build.ptrW.width.bits)) ∧
    ∀ c : Config,
      (∃ t, execOf c (.bitwiseUintptr v) s = .next t ∧
        TookBitwise s t c.ptrW.width (v.setWidth c.ptrW.width.bits)) ∧
      ∃ t, execOf c (.bitwiseIntptr v) s = .next t ∧
        TookBitwise s t c.ptrW.width (v.setWidth c.ptrW.width.bits)

/-- Rests on 10_state.md section 5 (`accept-PAR` of R33), 42_parallel.md section 2 (R129 to R133) and 30_encoding.md R66:
an idle block answers each unsigned Parallel request in the step that takes it, with the reversed operand in the low W
bits and zeros above; nothing else changes. (Width 128 exists only with EN128: else no request decodes to it.) -/
def Obligations.ParallelUnsignedResponds : Prop :=
  ∀ s : State, s.phase = .idle →
    (∀ v, exec (.parallelUint8 v) s = .next { s with rsp := some ((rev v).setWidth 128) }) ∧
    (∀ v, exec (.parallelUint16 v) s = .next { s with rsp := some ((rev v).setWidth 128) }) ∧
    (∀ v, exec (.parallelUint32 v) s = .next { s with rsp := some ((rev v).setWidth 128) }) ∧
    (∀ v, exec (.parallelUint64 v) s = .next { s with rsp := some ((rev v).setWidth 128) }) ∧
    (∀ v, exec (.parallelUint128 v) s = .next { s with rsp := some ((rev v).setWidth 128) })

/-- Rests on 10_state.md section 5 and 44_signed_adapter.md section 2 (R171 to R175): the signed Parallel requests, with
the same bits and no sign extension. -/
def Obligations.ParallelSignedResponds : Prop :=
  ∀ s : State, s.phase = .idle →
    (∀ v, exec (.parallelInt8 v) s = .next { s with rsp := some ((rev v).setWidth 128) }) ∧
    (∀ v, exec (.parallelInt16 v) s = .next { s with rsp := some ((rev v).setWidth 128) }) ∧
    (∀ v, exec (.parallelInt32 v) s = .next { s with rsp := some ((rev v).setWidth 128) }) ∧
    (∀ v, exec (.parallelInt64 v) s = .next { s with rsp := some ((rev v).setWidth 128) }) ∧
    (∀ v, exec (.parallelInt128 v) s = .next { s with rsp := some ((rev v).setWidth 128) })

/-- Rests on 45_pointer_width.md (R190, R193, R196): an idle block answers a pointer-width Parallel request at width PTR_W, in the
build at hand and in every build. -/
def Obligations.ParallelPointerResponds : Prop :=
  ∀ s : State, s.phase = .idle → ∀ v : BitVec 64,
    exec (.parallelUintptr v) s =
      .next { s with rsp := some ((rev (v.setWidth Config.build.ptrW.width.bits)).setWidth 128) } ∧
    exec (.parallelIntptr v) s =
      .next { s with rsp := some ((rev (v.setWidth Config.build.ptrW.width.bits)).setWidth 128) } ∧
    ∀ c : Config,
      execOf c (.parallelUintptr v) s =
        .next { s with rsp := some ((rev (v.setWidth c.ptrW.width.bits)).setWidth 128) } ∧
      execOf c (.parallelIntptr v) s =
        .next { s with rsp := some ((rev (v.setWidth c.ptrW.width.bits)).setWidth 128) }

/-- Rests on 10_state.md section 5 (`accept-LUT` of R33) and 43_lookup.md section 2 (R148 to R152): an idle block answers
each unsigned Lookup request in the step that takes it; nothing else changes. (Width 128 exists only with EN128: else
no request decodes to it.) -/
def Obligations.LookupUnsignedResponds : Prop :=
  ∀ s : State, s.phase = .idle →
    (∀ v, exec (.lookupUint8 v) s = .next { s with rsp := some ((rev v).setWidth 128) }) ∧
    (∀ v, exec (.lookupUint16 v) s = .next { s with rsp := some ((rev v).setWidth 128) }) ∧
    (∀ v, exec (.lookupUint32 v) s = .next { s with rsp := some ((rev v).setWidth 128) }) ∧
    (∀ v, exec (.lookupUint64 v) s = .next { s with rsp := some ((rev v).setWidth 128) }) ∧
    (∀ v, exec (.lookupUint128 v) s = .next { s with rsp := some ((rev v).setWidth 128) })

/-- Rests on 10_state.md section 5 and 44_signed_adapter.md section 2 (R176 to R180): the signed Lookup requests, with the
same bits and no sign extension. -/
def Obligations.LookupSignedResponds : Prop :=
  ∀ s : State, s.phase = .idle →
    (∀ v, exec (.lookupInt8 v) s = .next { s with rsp := some ((rev v).setWidth 128) }) ∧
    (∀ v, exec (.lookupInt16 v) s = .next { s with rsp := some ((rev v).setWidth 128) }) ∧
    (∀ v, exec (.lookupInt32 v) s = .next { s with rsp := some ((rev v).setWidth 128) }) ∧
    (∀ v, exec (.lookupInt64 v) s = .next { s with rsp := some ((rev v).setWidth 128) }) ∧
    (∀ v, exec (.lookupInt128 v) s = .next { s with rsp := some ((rev v).setWidth 128) })

/-- Rests on 45_pointer_width.md (R190, R194, R197): an idle block answers a pointer-width Lookup request at width PTR_W, in the
build at hand and in every build. -/
def Obligations.LookupPointerResponds : Prop :=
  ∀ s : State, s.phase = .idle → ∀ v : BitVec 64,
    exec (.lookupUintptr v) s =
      .next { s with rsp := some ((rev (v.setWidth Config.build.ptrW.width.bits)).setWidth 128) } ∧
    exec (.lookupIntptr v) s =
      .next { s with rsp := some ((rev (v.setWidth Config.build.ptrW.width.bits)).setWidth 128) } ∧
    ∀ c : Config,
      execOf c (.lookupUintptr v) s =
        .next { s with rsp := some ((rev (v.setWidth c.ptrW.width.bits)).setWidth 128) } ∧
      execOf c (.lookupIntptr v) s =
        .next { s with rsp := some ((rev (v.setWidth c.ptrW.width.bits)).setWidth 128) }

/-- Rests on 30_encoding.md section 5 (R69): each of the six selectors of width 128, offered to an idle block, is refused in
a build without EN128, and runs its operation, with all of the bus as its operand, in a build with EN128. -/
def Obligations.Width128IsRefusedWithoutEn128 : Prop :=
  ∀ (c : Config) (s : State) (a : Alg) (g : Signedness) (d : Bus), s.phase = .idle →
    s.wires = { rst := false, req := some ⟨g.code ++ 0b100#3 ++ a.code, d⟩ } →
    (c.en128 = false → stepOf c s = .refused (.reservedSelector .width128)) ∧
    (c.en128 = true → ∃ i : Instr, i.operation = ⟨a, .fixed .w128, g⟩ ∧ i.operandBus = d ∧
      stepOf c s = execOf c i s.passPorts)

/-- The model's choice (log 10), after 10_state.md section 5: `exec` of any instruction at a BUSY block is the step of the
operation in flight. R33 says that of a request presented while BUSY; `step` does not call `exec` there. -/
def Obligations.NoInstructionIsTakenWhileBusy : Prop :=
  ∀ (i : Instr) (s : State), s.phase = .busy → exec i s = .next (s.advance Config.build)

/-! ### One step -/

/-- A step runs the decoded instruction (10_state.md section 5): a request presented to an idle block, `rst` at 0, that
decodes to `i`, is run by `exec` on the state whose input ports have moved on: past the request, and past one entry of
`rst`. That the ports' coming values stand on lists is the model's (log 6). -/
def Obligations.StepRunsTheDecodedInstruction : Prop :=
  ∀ (s : State) (q : Request) (rest : List (Option Request)) (i : Instr),
    s.phase = .idle → s.wires.rst = false → s.reqIn = some q :: rest → decode Config.build q = .ok i →
    step s = exec i { s with rstIn := s.rstIn.tail, reqIn := rest }

/-- Rests on 30_encoding.md section 5 and 10_state.md section 5 (`refuse` of R33): an idle block offered a request with a
reserved selector refuses it. -/
def Obligations.ReservedRequestIsRefused : Prop :=
  ∀ (s : State) (q : Request) (why : Reserved),
    s.phase = .idle → s.wires = { rst := false, req := some q } → decodeOp Config.build q.op = .error why →
    step s = .refused (.reservedSelector why)

/-- Rests on 00_scope.md section 4 (R12), with 10_state.md section 5 (`refuse` of R33) for PHASE; the reason that the
refusal names is the model's (log 8). A step that refuses is an idle block's, of a request whose selector is reserved;
no instruction refuses. That no step faults holds by the type of faults, which is empty. -/
def Obligations.OnlyReservedRequestsAreRefused : Prop :=
  (∀ (s : State) (f : Fault), step s ≠ .fault f) ∧
  (∀ (s : State) (r : Refusal), step s = .refused r →
    s.phase = .idle ∧ ∃ q why, s.wires = { rst := false, req := some q } ∧ decodeOp Config.build q.op = .error why ∧
      r = .reservedSelector why) ∧
  ∀ (i : Instr) (s : State), ∃ t, exec i s = .next t

/-- Rests on 10_state.md section 5 (`idle` of R33): with PHASE = IDLE, no request and no reset, nothing changes; no response
is produced. That the entries of the input ports are used up is the model's (log 6), and so is the field that holds
the response (log 7). -/
def Obligations.IdleStepChangesNothing : Prop :=
  ∀ s : State, s.phase = .idle → s.wires = { rst := false, req := none } →
    step s = .next { s with rsp := none, rstIn := s.rstIn.tail, reqIn := s.reqIn.tail }

/-- Rests on 10_state.md section 5 (`iterate` of R33; `req_ready` of R34): BUSY with VP not 0 and no reset, whatever is
presented: R is shifted left by one and takes VP[0], VP is shifted right by one, S is decremented, all from the old
values at width WCUR; PHASE and WCUR stay, the block is not ready, and nothing responds. -/
def Obligations.IterateStepShiftsOneBitAcross : Prop :=
  ∀ s : State, s.phase = .busy → s.wires.rst = false → lowBits s.wcur s.regVP ≠ 0 →
    ∃ t, step s = .next t ∧ t.phase = .busy ∧ t.reqReady = false ∧ t.wcur = s.wcur ∧ t.rsp = none ∧ t.fresh = s.fresh ∧
      lowBits s.wcur t.regR =
        (lowBits s.wcur s.regR <<< 1 ||| (BitVec.ofBool ((lowBits s.wcur s.regVP).getLsbD 0)).setWidth s.wcur.bits) ∧
      lowBits s.wcur t.regVP = lowBits s.wcur s.regVP >>> 1 ∧ t.regS = s.regS - 1

/-- Rests on 10_state.md section 5 (`complete` of R33): BUSY with VP = 0 and no reset, whatever is presented: the response
is shl_W(R, S) with zeros above, PHASE is IDLE and the block is ready. Nothing is said of R, VP, S and WCUR, which
become unspecified. -/
def Obligations.CompleteStepResponds : Prop :=
  ∀ s : State, s.phase = .busy → s.wires.rst = false → lowBits s.wcur s.regVP = 0 →
    ∃ t, step s = .next t ∧ t.phase = .idle ∧ t.reqReady = true ∧
      t.rsp = some ((lowBits s.wcur s.regR <<< s.regS.toNat).setWidth 128)

/-- Rests on 10_state.md section 5 and 70_reset_and_hazards.md R229: a request presented while BUSY is held, reset or no
reset: the step has a next state, in which the same request is presented still, while `rst` moves on to its next entry,
so that it can be asserted in any step of the hold. That lists hold the coming values is the model's (log 6). -/
def Obligations.RequestIsHeldWhileBusy : Prop :=
  ∀ (s : State) (q : Request), s.phase = .busy → s.wires.req = some q →
    ∃ t, step s = .next t ∧ t.wires.req = some q ∧ t.reqIn = s.reqIn ∧ t.rstIn = s.rstIn.tail

/-- Rests on 10_state.md section 5 (`reset` of R33), 60_exceptions.md section 1 and 70_reset_and_hazards.md section 1: `rst`
wins over everything in any PHASE: the block is IDLE and ready, produces no response, and a request presented with
`rst` is presented still; `rst` itself moves on to its next entry, asserted or not (log 6). -/
def Obligations.ResetWinsInAnyPhase : Prop :=
  ∀ s : State, s.wires.rst = true →
    ∃ t, step s = .next t ∧ t.phase = .idle ∧ t.reqReady = true ∧ t.rspValid = false ∧ t.rstIn = s.rstIn.tail ∧
      (∀ q, s.wires.req = some q → t.reqIn = s.reqIn) ∧ (s.wires.req = none → t.reqIn = s.reqIn.tail)

/-- Rests on 10_state.md section 6: right after reset PHASE is IDLE, `req_ready` is 1, `rsp_valid` is 0, and the two
invariants of a run hold in every build. That R, VP and S fit their widths there rests on the values of log 2; nothing
else is said of R, VP, S and WCUR. -/
def Obligations.ResetLeavesAnIdleBlock : Prop :=
  State.reset.phase = .idle ∧ State.reset.reqReady = true ∧ State.reset.rspValid = false ∧
    ∀ c : Config, InFlight c State.reset ∧ FitsTheWires c State.reset

/-- Rests on 45_pointer_width.md section 1 and 10_state.md section 7: no number of steps, resets among them, changes what
the build is. In the state that any run of the machine of a build has reached, if it is idle and not being reset, a
pointer-width request still does what the request of the fixed width PTR_W does, and a request of width 128 is still
refused exactly when EN128 is false. -/
def Obligations.NoStepChangesTheBuild : Prop :=
  ∀ (c : Config) (k : Nat) (s t : State), (machineOf c).run k s = .next t → t.phase = .idle → t.wires.rst = false →
    ∀ (a : Alg) (g : Signedness) (d : Bus) (rest : List (Option Request)),
      stepOf c { t with reqIn := some ⟨g.code ++ 0b101#3 ++ a.code, d⟩ :: rest } =
        stepOf c { t with reqIn := some ⟨g.code ++ (WidthName.fixed c.ptrW.width).code ++ a.code, d⟩ :: rest } ∧
      ((∃ r, stepOf c { t with reqIn := some ⟨g.code ++ 0b100#3 ++ a.code, d⟩ :: rest } = .refused r) ↔
        c.en128 = false)

/-- Rests on 10_state.md sections 3 and 5: PHASE becomes BUSY only in the step that takes a Bitwise request, and that step
loads R, VP, S and WCUR. -/
def Obligations.OnlyBitwiseRequestsMakeTheBlockBusy : Prop :=
  ∀ s t : State, s.phase = .idle → step s = .next t → t.phase = .busy →
    ∃ (q : Request) (i : Instr), s.wires = { rst := false, req := some q } ∧ decode Config.build q = .ok i ∧
      i.operation.alg = .bitwise ∧
      TookBitwise s.passPorts t (i.width Config.build) (lowBits (i.width Config.build) q.data)

/-- Rests on 10_state.md section 5 and 30_encoding.md section 3: `rsp_valid` is 1 only after a step that completes an
operation: the complete step of a Bitwise operation, or the step that takes a Parallel or Lookup request. The response
then has zeros at and above the width of that operation. -/
def Obligations.ResponsesComeOnlyFromOperations : Prop :=
  ∀ (s t : State) (d : Bus), step s = .next t → t.rsp = some d →
    s.wires.rst = false ∧ t.phase = .idle ∧
      ((s.phase = .busy ∧ lowBits s.wcur s.regVP = 0 ∧ d.toNat < 2 ^ s.wcur.bits) ∨
        (s.phase = .idle ∧ ∃ (q : Request) (i : Instr), s.wires = { rst := false, req := some q } ∧
          decode Config.build q = .ok i ∧ i.operation.alg ≠ .bitwise ∧ d.toNat < 2 ^ (i.width Config.build).bits))

/-! ### Invariants, and whole operations -/

/-- Rests on 41_bitwise.md section 1 (the spec's own inference, R101, carried to the machine): that a BUSY block is in the
middle of a Bitwise operation of its build, with the registers R101 gives it, is kept by every step from every state, in
every build. -/
def Obligations.StepKeepsTheOperationInFlight : Prop :=
  (∀ s t : State, InFlight Config.build s → step s = .next t → InFlight Config.build t) ∧
  ∀ (c : Config) (s t : State), InFlight c s → stepOf c s = .next t → InFlight c t

/-- Rests on 10_state.md sections 2 and 5: that registers and response fit their MAXW, SW(MAXW) and DATA_W bits is kept by
every step from every state with a sound operation in flight, in every build. That the bits of R and VP between W and
MAXW are 0 is the model's choice (log 4); the free values are cut to the registers' widths (log 3). -/
def Obligations.StepKeepsTheWiresFitting : Prop :=
  (∀ s t : State, InFlight Config.build s → FitsTheWires Config.build s → step s = .next t → FitsTheWires Config.build t) ∧
  ∀ (c : Config) (s t : State), InFlight c s → FitsTheWires c s → stepOf c s = .next t → FitsTheWires c t

/-- Rests on 41_bitwise.md section 1 (the spec's own inference, R106), 70_reset_and_hazards.md section 4 and 10_state.md
section 5 (`req_ready` of R34): in every build, a Bitwise operation of any width and signedness, taken by an idle block
that is not reset meanwhile, is BUSY, not ready and silent after each of its first 1 + iters_W(v) steps, and responds
with `rev_W(v)` in step 2 + iters_W(v), ready again, whatever else is presented. -/
def Obligations.BitwiseOperationAnswersInItsStepCount : Prop :=
  ∀ (c : Config) (s : State) (q : Request) (i : Instr),
    s.phase = .idle → s.wires.req = some q → decode c q = .ok i → i.operation.alg = .bitwise →
    NoResetIn (iters (lowBits (i.width c) q.data) + 2) s →
    (∃ t : State, (machineOf c).run (iters (lowBits (i.width c) q.data) + 2) s = .next t ∧ t.phase = .idle ∧
      t.reqReady = true ∧ t.rsp = some ((rev (lowBits (i.width c) q.data)).setWidth 128)) ∧
    ∀ k, 1 ≤ k → k ≤ iters (lowBits (i.width c) q.data) + 1 →
      ∃ t : State, (machineOf c).run k s = .next t ∧ t.phase = .busy ∧ t.reqReady = false ∧ t.rsp = none

/-- Rests on 60_exceptions.md section 3 (the spec's own inference, R213) and 40_contract.md section 1: in every build, every
request that decodes, taken by an idle block that is not reset meanwhile, gets the reversal of its operand as its
response: in one step for Parallel and Lookup, in at most W+1 steps for Bitwise. -/
def Obligations.EveryRequestIsAnsweredWithItsReversal : Prop :=
  ∀ (c : Config) (s : State) (q : Request) (i : Instr),
    s.phase = .idle → s.wires.req = some q → decode c q = .ok i → NoResetIn ((i.width c).bits + 1) s →
    ∃ (k : Nat) (t : State), 1 ≤ k ∧ k ≤ (i.width c).bits + 1 ∧ (i.operation.alg ≠ .bitwise → k = 1) ∧
      (machineOf c).run k s = .next t ∧ t.phase = .idle ∧
      t.rsp = some ((rev (lowBits (i.width c) q.data)).setWidth 128)

/-- Rests on 10_state.md sections 2 and 3 (R21; R39, the spec's own inference): nothing survives an operation. Two idle
blocks of one build with the same inputs to come, whatever their working registers, last responses and free values,
cannot be told apart by any number of steps. -/
def Obligations.NothingSurvivesAnOperation : Prop :=
  ∀ (c : Config) (s t : State) (k : Nat), s.phase = .idle → t.phase = .idle → s.rstIn = t.rstIn → s.reqIn = t.reqIn →
    1 ≤ k → SameOutcome ((machineOf c).run k s) ((machineOf c).run k t)

/-- R86, whole: in every build, two requests equal but for SGN, taken by the same idle block, lead to the same run, hence
to the same response. -/
def Obligations.SignednessNeverChangesTheResponse : Prop :=
  ∀ (c : Config) (s : State) (q : Request) (rest : List (Option Request)) (k : Nat),
    s.phase = .idle → s.wires.rst = false →
    (machineOf c).run (k + 1) { s with reqIn := some q :: rest } =
      (machineOf c).run (k + 1) { s with reqIn := some { q with op := q.op ^^^ 0b100000#6 } :: rest }

/-- R87, whole: in every build, a pointer-width request, taken by an idle block, leads to the same run as the request with
the same ALG, SGN and data and the WSEL of the fixed width PTR_W, hence to the same response. -/
def Obligations.PointerRequestIsTheFixedWidthRequest : Prop :=
  ∀ (c : Config) (s : State) (a : Alg) (g : Signedness) (d : Bus) (rest : List (Option Request)) (k : Nat),
    s.phase = .idle → s.wires.rst = false →
    (machineOf c).run (k + 1) { s with reqIn := some ⟨g.code ++ 0b101#3 ++ a.code, d⟩ :: rest } =
      (machineOf c).run (k + 1)
        { s with reqIn := some ⟨g.code ++ (WidthName.fixed c.ptrW.width).code ++ a.code, d⟩ :: rest }

/-- Rests on 10_state.md sections 2 and 3 (R21; R39, the spec's own inference): one step of two states that differ only in
what no step reads has outcomes that a requester cannot tell apart, in every build and in any PHASE. -/
def Obligations.StepKeepsTheView : Prop :=
  (∀ s t : State, SameView s t → SameOutcome (step s) (step t)) ∧
  ∀ (c : Config) (s t : State), SameView s t → SameOutcome (stepOf c s) (stepOf c t)

/-- Rests on 30_encoding.md section 5 (R69) and 00_scope.md section 3 (R7): leaving out width 128 changes nothing else. Two
builds that differ only in EN128, in states that cannot be told apart, given requests none of which has WSEL = 100,
cannot be told apart by any number of steps. -/
def Obligations.LeavingOutWidth128ChangesNothingElse : Prop :=
  ∀ (p : PtrWidth) (s t : State) (k : Nat), SameView s t →
    (∀ q, some q ∈ s.reqIn → q.op.extractLsb' 2 3 ≠ 0b100#3) →
    SameOutcome ((machineOf ⟨true, p⟩).run k s) ((machineOf ⟨false, p⟩).run k t)

/-- Rests on 10_state.md sections 4 and 7 (R28, R37): the dispatch, the step and the machine that the fixed names give are
those of the family over the builds, at the build at hand. That this build is one constant, of which nothing is known,
is the model's (log 1). -/
def Obligations.TheMachineIsThatOfItsBuild : Prop :=
  (∀ (i : Instr) (s : State), exec i s = execOf Config.build i s) ∧ (∀ s : State, step s = stepOf Config.build s) ∧
    Sys2Proof.core = machineOf Config.build
end

