-- ==== Sys2Proof/Laws/Bits.lean ====
section
/-! SUPPORT. The bits and bytes of a value: one lemma per definition of Machine/Operands.lean, and the fields of the
working registers of the Bitwise loop. -/

namespace Sys2Proof.Machine

variable {n : Nat}

/-- Bit j of byte k is bit 8k+j. -/
theorem getLsbD_byteOf (v : BitVec n) (k j : Nat) :
    (byteOf v k).getLsbD j = (decide (j < 8) && v.getLsbD (8 * k + j)) := by
  simp [byteOf]

/-- Bit i of a value put together from bytes is bit i mod 8 of byte i / 8. -/
theorem getLsbD_ofBytes (f : Nat → Byte) (n i : Nat) :
    (ofBytes n f).getLsbD i = (decide (i < 8 * n) && (f (i / 8)).getLsbD (i % 8)) := by
  induction n with
  | zero => simp [ofBytes]
  | succ n ih =>
    rw [ofBytes, BitVec.getLsbD_cast, BitVec.getLsbD_append, ih]
    by_cases h : i < 8 * n
    · simp [h, show i < 8 * (n + 1) by omega]
    · by_cases h' : i < 8 * (n + 1)
      · have hd : i / 8 = n := by omega
        simp [h, h', hd, show i - 8 * n = i % 8 by omega]
      · simp [h, h', BitVec.getLsbD_of_ge (f n) (i - 8 * n) (by omega)]

/-- Byte k of a value put together from bytes is the k-th of them. -/
theorem byteOf_ofBytes (f : Nat → Byte) {n k : Nat} (h : k < n) : byteOf (ofBytes n f) k = f k := by
  apply BitVec.eq_of_getLsbD_eq
  intro j hj
  rw [getLsbD_byteOf, getLsbD_ofBytes, show (8 * k + j) / 8 = k by omega, show (8 * k + j) % 8 = j by omega]
  simp [hj, show 8 * k + j < 8 * n by omega]

/-- Two values of n bytes with the same bytes are equal. -/
theorem eq_of_byteOf_eq {x y : BitVec (8 * n)} (h : ∀ k, k < n → byteOf x k = byteOf y k) : x = y := by
  apply BitVec.eq_of_getLsbD_eq
  intro i hi
  have hb := congrArg (BitVec.getLsbD · (i % 8)) (h (i / 8) (by omega))
  simp only [getLsbD_byteOf, show 8 * (i / 8) + i % 8 = i by omega, Nat.mod_lt i (by decide : 8 > 0), decide_true,
    Bool.true_and] at hb
  exact hb

/-- Bit i of the reversal is bit n-1-i of the value. -/
theorem getLsbD_rev (v : BitVec n) (i : Nat) :
    (rev v).getLsbD i = (decide (i < n) && v.getLsbD (n - 1 - i)) := by
  rw [rev, BitVec.getLsbD_ofFnLE]
  by_cases h : i < n <;> simp [h]

/-- The low bits of a bus that holds a value of that width are the value. -/
@[simp] theorem lowBits_onBus (w : Width) (x : BitVec w.bits) : lowBits w (onBus x) = x := by
  apply BitVec.eq_of_getLsbD_eq
  intro i hi
  have h : w.bits ≤ 128 := by cases w <;> decide
  simp [lowBits, onBus, hi, show i < 128 by omega]

/-- The low bits of a bus that holds a value at least that wide are the low bits of the value. -/
theorem lowBits_setWidth (w : Width) (h : w.bits ≤ n) (x : BitVec n) :
    lowBits w (x.setWidth 128) = x.setWidth w.bits := by
  apply BitVec.eq_of_getLsbD_eq
  intro i hi
  have hw : w.bits ≤ 128 := by cases w <;> decide
  simp [lowBits, hi, show i < 128 by omega]

/-- A bus that holds an n-bit value has no bit at or above n. -/
theorem onBus_lt (v : BitVec n) : (onBus v).toNat < 2 ^ n := by
  simp only [onBus, BitVec.toNat_setWidth]
  exact Nat.lt_of_le_of_lt (Nat.mod_le _ _) v.isLt

@[simp] theorem bwInit_r (v : BitVec n) : (bwInit v).r = v := rfl
@[simp] theorem bwInit_vp (v : BitVec n) : (bwInit v).vp = v >>> 1 := rfl
@[simp] theorem bwInit_s (v : BitVec n) : (bwInit v).s = BitVec.ofNat 7 (n - 1) := rfl
@[simp] theorem bwStep_vp (x : BwRegs n) : (bwStep x).vp = x.vp >>> 1 := rfl
@[simp] theorem bwStep_s (x : BwRegs n) : (bwStep x).s = x.s - 1 := rfl

/-- Bit i of R after one pass: bit i-1 of R, and in bit 0 the bit 0 of VP. -/
theorem getLsbD_bwStep_r (x : BwRegs n) (i : Nat) (h : i < n) :
    (bwStep x).r.getLsbD i = if i = 0 then x.vp.getLsbD 0 else x.r.getLsbD (i - 1) := by
  cases i with
  | zero => simp [bwStep, h]
  | succ i => simp [bwStep, h, BitVec.getLsbD_eq_getElem (show i < n by omega)]

/-- The countdown starts at W-1 at every width. -/
theorem bwInit_s_toNat (w : Width) (v : BitVec w.bits) : (bwInit v).s.toNat = w.bits - 1 := by
  cases w <;> rfl

end Sys2Proof.Machine
end

