-- ==== Sys2Proof/Laws/Memory.lean ====
section
/-! SUPPORT. The ROM: it has the canonical form, and its read is one total function of the index. The block has no
operation that writes a memory (spec 20_memory.md R44), so the form is kept by having no writer. -/

namespace Sys2Proof.Machine

/-- The ROM has the canonical form. -/
theorem rom_wf : Memory.wf rom = true := by decide +kernel

/-- A read of the ROM at a byte answers the entry that `romRead` gives. -/
theorem memRead_rom (i : Byte) : memRead rom i.toNat = some (romRead i) := by simp [romRead]

end Sys2Proof.Machine
end

