-- ==== Sys2Proof/Laws/State.lean ====
section
/-! SUPPORT. One lemma per field per update of the state, each true by rfl, so that no proof unfolds a record update. -/

namespace Sys2Proof.Machine

@[simp] theorem State.passPorts_phase (s : State) : s.passPorts.phase = s.phase := rfl
@[simp] theorem State.passPorts_wcur (s : State) : s.passPorts.wcur = s.wcur := rfl
@[simp] theorem State.passPorts_regR (s : State) : s.passPorts.regR = s.regR := rfl
@[simp] theorem State.passPorts_regVP (s : State) : s.passPorts.regVP = s.regVP := rfl
@[simp] theorem State.passPorts_regS (s : State) : s.passPorts.regS = s.regS := rfl
@[simp] theorem State.passPorts_rsp (s : State) : s.passPorts.rsp = s.rsp := rfl
@[simp] theorem State.passPorts_rstIn (s : State) : s.passPorts.rstIn = s.rstIn.tail := rfl
@[simp] theorem State.passPorts_reqIn (s : State) : s.passPorts.reqIn = if s.holds then s.reqIn else s.reqIn.tail := rfl
@[simp] theorem State.passPorts_fresh (s : State) : s.passPorts.fresh = s.fresh := rfl

@[simp] theorem State.unspecify_phase (s : State) (c : Config) : (s.unspecify c).phase = s.phase := rfl
@[simp] theorem State.unspecify_wcur (s : State) (c : Config) : (s.unspecify c).wcur = Config.freeW s.fresh := rfl
@[simp] theorem State.unspecify_regR (s : State) (c : Config) : (s.unspecify c).regR = ((Config.freeR s.fresh).setWidth c.maxW).setWidth 128 := rfl
@[simp] theorem State.unspecify_regVP (s : State) (c : Config) : (s.unspecify c).regVP = ((Config.freeVP s.fresh).setWidth c.maxW).setWidth 128 := rfl
@[simp] theorem State.unspecify_regS (s : State) (c : Config) : (s.unspecify c).regS = ((Config.freeS s.fresh).setWidth c.swMax).setWidth 7 := rfl
@[simp] theorem State.unspecify_rsp (s : State) (c : Config) : (s.unspecify c).rsp = s.rsp := rfl
@[simp] theorem State.unspecify_rstIn (s : State) (c : Config) : (s.unspecify c).rstIn = s.rstIn := rfl
@[simp] theorem State.unspecify_reqIn (s : State) (c : Config) : (s.unspecify c).reqIn = s.reqIn := rfl
@[simp] theorem State.unspecify_fresh (s : State) (c : Config) : (s.unspecify c).fresh = s.fresh + 1 := rfl

@[simp] theorem State.loadRegs_phase (s : State) (w : Width) (x : BwRegs w.bits) : (s.loadRegs w x).phase = s.phase := rfl
@[simp] theorem State.loadRegs_wcur (s : State) (w : Width) (x : BwRegs w.bits) : (s.loadRegs w x).wcur = w := rfl
@[simp] theorem State.loadRegs_regR (s : State) (w : Width) (x : BwRegs w.bits) : (s.loadRegs w x).regR = onBus x.r := rfl
@[simp] theorem State.loadRegs_regVP (s : State) (w : Width) (x : BwRegs w.bits) : (s.loadRegs w x).regVP = onBus x.vp := rfl
@[simp] theorem State.loadRegs_regS (s : State) (w : Width) (x : BwRegs w.bits) : (s.loadRegs w x).regS = x.s := rfl
@[simp] theorem State.loadRegs_rsp (s : State) (w : Width) (x : BwRegs w.bits) : (s.loadRegs w x).rsp = none := rfl
@[simp] theorem State.loadRegs_rstIn (s : State) (w : Width) (x : BwRegs w.bits) : (s.loadRegs w x).rstIn = s.rstIn := rfl
@[simp] theorem State.loadRegs_reqIn (s : State) (w : Width) (x : BwRegs w.bits) : (s.loadRegs w x).reqIn = s.reqIn := rfl
@[simp] theorem State.loadRegs_fresh (s : State) (w : Width) (x : BwRegs w.bits) : (s.loadRegs w x).fresh = s.fresh := rfl

@[simp] theorem State.acceptBW_phase (s : State) (w : Width) (v : BitVec w.bits) : (s.acceptBW w v).phase = .busy := rfl
@[simp] theorem State.acceptBW_wcur (s : State) (w : Width) (v : BitVec w.bits) : (s.acceptBW w v).wcur = w := rfl
@[simp] theorem State.acceptBW_regR (s : State) (w : Width) (v : BitVec w.bits) : (s.acceptBW w v).regR = onBus v := rfl
@[simp] theorem State.acceptBW_regVP (s : State) (w : Width) (v : BitVec w.bits) : (s.acceptBW w v).regVP = onBus (v >>> 1) := rfl
@[simp] theorem State.acceptBW_regS (s : State) (w : Width) (v : BitVec w.bits) : (s.acceptBW w v).regS = BitVec.ofNat 7 (w.bits - 1) := rfl
@[simp] theorem State.acceptBW_rsp (s : State) (w : Width) (v : BitVec w.bits) : (s.acceptBW w v).rsp = none := rfl
@[simp] theorem State.acceptBW_rstIn (s : State) (w : Width) (v : BitVec w.bits) : (s.acceptBW w v).rstIn = s.rstIn := rfl
@[simp] theorem State.acceptBW_reqIn (s : State) (w : Width) (v : BitVec w.bits) : (s.acceptBW w v).reqIn = s.reqIn := rfl
@[simp] theorem State.acceptBW_fresh (s : State) (w : Width) (v : BitVec w.bits) : (s.acceptBW w v).fresh = s.fresh := rfl

@[simp] theorem State.respond_phase (s : State) {n : Nat} (r : BitVec n) : (s.respond r).phase = s.phase := rfl
@[simp] theorem State.respond_wcur (s : State) {n : Nat} (r : BitVec n) : (s.respond r).wcur = s.wcur := rfl
@[simp] theorem State.respond_regR (s : State) {n : Nat} (r : BitVec n) : (s.respond r).regR = s.regR := rfl
@[simp] theorem State.respond_regVP (s : State) {n : Nat} (r : BitVec n) : (s.respond r).regVP = s.regVP := rfl
@[simp] theorem State.respond_regS (s : State) {n : Nat} (r : BitVec n) : (s.respond r).regS = s.regS := rfl
@[simp] theorem State.respond_rsp (s : State) {n : Nat} (r : BitVec n) : (s.respond r).rsp = some (onBus r) := rfl
@[simp] theorem State.respond_rstIn (s : State) {n : Nat} (r : BitVec n) : (s.respond r).rstIn = s.rstIn := rfl
@[simp] theorem State.respond_reqIn (s : State) {n : Nat} (r : BitVec n) : (s.respond r).reqIn = s.reqIn := rfl
@[simp] theorem State.respond_fresh (s : State) {n : Nat} (r : BitVec n) : (s.respond r).fresh = s.fresh := rfl

@[simp] theorem State.iterate_phase (s : State) : s.iterate.phase = s.phase := rfl
@[simp] theorem State.iterate_wcur (s : State) : s.iterate.wcur = s.wcur := rfl
@[simp] theorem State.iterate_regR (s : State) : s.iterate.regR = onBus (bwStep s.bw).r := rfl
@[simp] theorem State.iterate_regVP (s : State) : s.iterate.regVP = onBus (bwStep s.bw).vp := rfl
@[simp] theorem State.iterate_regS (s : State) : s.iterate.regS = (bwStep s.bw).s := rfl
@[simp] theorem State.iterate_rsp (s : State) : s.iterate.rsp = none := rfl
@[simp] theorem State.iterate_rstIn (s : State) : s.iterate.rstIn = s.rstIn := rfl
@[simp] theorem State.iterate_reqIn (s : State) : s.iterate.reqIn = s.reqIn := rfl
@[simp] theorem State.iterate_fresh (s : State) : s.iterate.fresh = s.fresh := rfl

@[simp] theorem State.complete_phase (s : State) (c : Config) : (s.complete c).phase = .idle := rfl
@[simp] theorem State.complete_wcur (s : State) (c : Config) : (s.complete c).wcur = Config.freeW s.fresh := rfl
@[simp] theorem State.complete_regR (s : State) (c : Config) : (s.complete c).regR = ((Config.freeR s.fresh).setWidth c.maxW).setWidth 128 := rfl
@[simp] theorem State.complete_regVP (s : State) (c : Config) : (s.complete c).regVP = ((Config.freeVP s.fresh).setWidth c.maxW).setWidth 128 := rfl
@[simp] theorem State.complete_regS (s : State) (c : Config) : (s.complete c).regS = ((Config.freeS s.fresh).setWidth c.swMax).setWidth 7 := rfl
@[simp] theorem State.complete_rsp (s : State) (c : Config) : (s.complete c).rsp = some (onBus (bwResult s.bw)) := rfl
@[simp] theorem State.complete_rstIn (s : State) (c : Config) : (s.complete c).rstIn = s.rstIn := rfl
@[simp] theorem State.complete_reqIn (s : State) (c : Config) : (s.complete c).reqIn = s.reqIn := rfl
@[simp] theorem State.complete_fresh (s : State) (c : Config) : (s.complete c).fresh = s.fresh + 1 := rfl

@[simp] theorem State.idleStep_phase (s : State) : s.idleStep.phase = s.phase := rfl
@[simp] theorem State.idleStep_wcur (s : State) : s.idleStep.wcur = s.wcur := rfl
@[simp] theorem State.idleStep_regR (s : State) : s.idleStep.regR = s.regR := rfl
@[simp] theorem State.idleStep_regVP (s : State) : s.idleStep.regVP = s.regVP := rfl
@[simp] theorem State.idleStep_regS (s : State) : s.idleStep.regS = s.regS := rfl
@[simp] theorem State.idleStep_rsp (s : State) : s.idleStep.rsp = none := rfl
@[simp] theorem State.idleStep_rstIn (s : State) : s.idleStep.rstIn = s.rstIn := rfl
@[simp] theorem State.idleStep_reqIn (s : State) : s.idleStep.reqIn = s.reqIn := rfl
@[simp] theorem State.idleStep_fresh (s : State) : s.idleStep.fresh = s.fresh := rfl

@[simp] theorem State.resetStep_phase (s : State) (c : Config) : (s.resetStep c).phase = .idle := rfl
@[simp] theorem State.resetStep_wcur (s : State) (c : Config) : (s.resetStep c).wcur = Config.freeW s.fresh := rfl
@[simp] theorem State.resetStep_regR (s : State) (c : Config) : (s.resetStep c).regR = ((Config.freeR s.fresh).setWidth c.maxW).setWidth 128 := rfl
@[simp] theorem State.resetStep_regVP (s : State) (c : Config) : (s.resetStep c).regVP = ((Config.freeVP s.fresh).setWidth c.maxW).setWidth 128 := rfl
@[simp] theorem State.resetStep_regS (s : State) (c : Config) : (s.resetStep c).regS = ((Config.freeS s.fresh).setWidth c.swMax).setWidth 7 := rfl
@[simp] theorem State.resetStep_rsp (s : State) (c : Config) : (s.resetStep c).rsp = none := rfl
@[simp] theorem State.resetStep_rstIn (s : State) (c : Config) : (s.resetStep c).rstIn = s.rstIn := rfl
@[simp] theorem State.resetStep_reqIn (s : State) (c : Config) : (s.resetStep c).reqIn = s.reqIn := rfl
@[simp] theorem State.resetStep_fresh (s : State) (c : Config) : (s.resetStep c).fresh = s.fresh + 1 := rfl

end Sys2Proof.Machine
end

