-- ==== Sys2Proof/Laws/Ops.lean ====
section
/-! SUPPORT. What each shared operation can do, said once: cite these instead of unfolding the operations. -/

namespace Sys2Proof.Machine

/-- The working registers after a load are the registers loaded. -/
@[simp] theorem State.bw_loadRegs (s : State) (w : Width) (x : BwRegs w.bits) : (s.loadRegs w x).bw = x := by
  simp [State.bw]

/-- The working registers after `accept-BW` are those of the initial assignments (R106). -/
@[simp] theorem State.bw_acceptBW (s : State) (w : Width) (v : BitVec w.bits) : (s.acceptBW w v).bw = bwInit v :=
  s.bw_loadRegs w (bwInit v)

/-- The working registers after an iterate step are those after one more pass (R106). -/
@[simp] theorem State.bw_iterate (s : State) : s.iterate.bw = bwStep s.bw :=
  s.bw_loadRegs s.wcur (bwStep s.bw)

/-- Moving the input ports on leaves the working registers. -/
@[simp] theorem State.bw_passPorts (s : State) : s.passPorts.bw = s.bw := rfl

/-- What the input ports do when nothing is presented: both lists move on. -/
theorem State.passPorts_of_none {s : State} (h : s.wires.req = none) : s.passPorts.reqIn = s.reqIn.tail := by
  simp [State.holds, h]

/-- A request stays presented through a step with `rst` asserted (R203). -/
theorem State.passPorts_of_rst {s : State} {q : Request} (hr : s.wires.rst = true) (hq : s.wires.req = some q) :
    s.passPorts.reqIn = s.reqIn := by
  simp [State.holds, hr, hq]

/-- A request stays presented through a step of a BUSY block (R33). -/
theorem State.passPorts_of_busy {s : State} {q : Request} (hp : s.phase = .busy) (hq : s.wires.req = some q) :
    s.passPorts.reqIn = s.reqIn := by
  simp [State.holds, hp, hq]

/-- The step of an idle block without `rst` uses up what is presented. -/
theorem State.passPorts_of_idle {s : State} (hp : s.phase = .idle) (hr : s.wires.rst = false) :
    s.passPorts.reqIn = s.reqIn.tail := by
  simp [State.holds, hp, hr]

theorem State.advance_of_eq {s : State} (c : Config) (h : s.bw.vp = 0) : s.advance c = s.complete c := if_pos h

theorem State.advance_of_ne {s : State} (c : Config) (h : s.bw.vp ≠ 0) : s.advance c = s.iterate := if_neg h

/-- The two things an operation in flight can do. -/
theorem State.advance_cases (c : Config) (s : State) :
    (s.bw.vp = 0 ∧ s.advance c = s.complete c) ∨ (s.bw.vp ≠ 0 ∧ s.advance c = s.iterate) := by
  by_cases h : s.bw.vp = 0
  · exact .inl ⟨h, advance_of_eq c h⟩
  · exact .inr ⟨h, advance_of_ne c h⟩

theorem State.quietStep_idle {s : State} (c : Config) (h : s.phase = .idle) : s.quietStep c = s.idleStep := by
  simp [State.quietStep, h]

theorem State.quietStep_busy {s : State} (c : Config) (h : s.phase = .busy) : s.quietStep c = s.advance c := by
  simp [State.quietStep, h]

theorem State.offer_busy {s : State} (c : Config) (h : s.phase = .busy) (t : State) :
    s.offer c t = .next (s.advance c) := by
  simp [State.offer, h]

theorem State.offer_idle {s : State} (c : Config) (h : s.phase = .idle) (t : State) : s.offer c t = .next t := by
  simp [State.offer, h]

/-- Everything an offered request can lead to: it always has a next state. -/
theorem State.offer_cases (c : Config) (s t : State) :
    (s.phase = .busy ∧ s.offer c t = .next (s.advance c)) ∨ (s.phase = .idle ∧ s.offer c t = .next t) := by
  cases h : s.phase
  · exact .inr ⟨rfl, offer_idle c h t⟩
  · exact .inl ⟨rfl, offer_busy c h t⟩

/-- The Lookup result, byte by byte: the entry read for byte n-1-j of the operand (R143). -/
theorem lookup_eq_ofBytes (n : Nat) (v : BitVec (8 * n)) :
    lookup n v = ofBytes n fun j => romRead (byteOf v (n - 1 - j)) := by
  apply eq_of_byteOf_eq
  intro k hk
  simp only [lookup]
  rw [byteOf_ofBytes _ hk, byteOf_ofBytes _ hk]
  simp [lookupReads, List.getD, show n - 1 - k < n by omega]

/-- Every fixed width but 128 exists in every build. -/
@[simp] theorem hasWidth_w8 (c : Config) : c.hasWidth .w8 = true := rfl
@[simp] theorem hasWidth_w16 (c : Config) : c.hasWidth .w16 = true := rfl
@[simp] theorem hasWidth_w32 (c : Config) : c.hasWidth .w32 = true := rfl
@[simp] theorem hasWidth_w64 (c : Config) : c.hasWidth .w64 = true := rfl
@[simp] theorem hasWidth_w128 (c : Config) : c.hasWidth .w128 = c.en128 := by simp [Config.hasWidth]

/-- The pointer width exists in every build (R7). -/
@[simp] theorem hasWidth_ptr (c : Config) : c.hasWidth c.ptrW.width = true := by
  cases c with | mk e p => cases p <;> rfl

/-- The dispatch at the build at hand is that of the family (R37). -/
theorem exec_eq_execOf (i : Instr) (s : State) : exec i s = execOf Config.build i s := by
  cases i <;> rfl

/-- The step at the build at hand is that of the family (R37). -/
theorem step_eq_stepOf (s : State) : step s = stepOf Config.build s := by
  have h : exec = execOf Config.build := funext fun i => funext fun s => exec_eq_execOf i s
  rw [step, stepOf, h]

/-- The three forms an instruction's step has: every meaning is an offer, of `accept-BW` or of a result, at the
effective width of the instruction. -/
theorem execOf_forms (c : Config) (i : Instr) (s : State) :
    (i.operation.alg = .bitwise ∧
      execOf c i s = s.offerBitwise c (i.width c) (lowBits (i.width c) i.operandBus)) ∨
    (i.operation.alg = .parallel ∧
      execOf c i s = s.offerResult c (parallel (i.width c).bytes (lowBits (i.width c) i.operandBus))) ∨
    (i.operation.alg = .lookup ∧
      execOf c i s = s.offerResult c (lookup (i.width c).bytes (lowBits (i.width c) i.operandBus))) := by
  have hp : ∀ v : BitVec 64, ptrValue c v = lowBits c.ptrW.width (v.setWidth 128) := fun v =>
    (lowBits_setWidth c.ptrW.width (by cases c.ptrW <;> decide) v).symm
  cases i
  case bitwiseUint8 v => exact .inl ⟨rfl, congrArg (s.offerBitwise c .w8) ((lowBits_onBus .w8 v).symm)⟩
  case parallelUint8 v => exact .inr (.inl ⟨rfl, congrArg (fun x => s.offerResult c (parallel 1 x)) ((lowBits_onBus .w8 v).symm)⟩)
  case lookupUint8 v => exact .inr (.inr ⟨rfl, congrArg (fun x => s.offerResult c (lookup 1 x)) ((lowBits_onBus .w8 v).symm)⟩)
  case bitwiseUint16 v => exact .inl ⟨rfl, congrArg (s.offerBitwise c .w16) ((lowBits_onBus .w16 v).symm)⟩
  case parallelUint16 v => exact .inr (.inl ⟨rfl, congrArg (fun x => s.offerResult c (parallel 2 x)) ((lowBits_onBus .w16 v).symm)⟩)
  case lookupUint16 v => exact .inr (.inr ⟨rfl, congrArg (fun x => s.offerResult c (lookup 2 x)) ((lowBits_onBus .w16 v).symm)⟩)
  case bitwiseUint32 v => exact .inl ⟨rfl, congrArg (s.offerBitwise c .w32) ((lowBits_onBus .w32 v).symm)⟩
  case parallelUint32 v => exact .inr (.inl ⟨rfl, congrArg (fun x => s.offerResult c (parallel 4 x)) ((lowBits_onBus .w32 v).symm)⟩)
  case lookupUint32 v => exact .inr (.inr ⟨rfl, congrArg (fun x => s.offerResult c (lookup 4 x)) ((lowBits_onBus .w32 v).symm)⟩)
  case bitwiseUint64 v => exact .inl ⟨rfl, congrArg (s.offerBitwise c .w64) ((lowBits_onBus .w64 v).symm)⟩
  case parallelUint64 v => exact .inr (.inl ⟨rfl, congrArg (fun x => s.offerResult c (parallel 8 x)) ((lowBits_onBus .w64 v).symm)⟩)
  case lookupUint64 v => exact .inr (.inr ⟨rfl, congrArg (fun x => s.offerResult c (lookup 8 x)) ((lowBits_onBus .w64 v).symm)⟩)
  case bitwiseUint128 v => exact .inl ⟨rfl, congrArg (s.offerBitwise c .w128) ((lowBits_onBus .w128 v).symm)⟩
  case parallelUint128 v => exact .inr (.inl ⟨rfl, congrArg (fun x => s.offerResult c (parallel 16 x)) ((lowBits_onBus .w128 v).symm)⟩)
  case lookupUint128 v => exact .inr (.inr ⟨rfl, congrArg (fun x => s.offerResult c (lookup 16 x)) ((lowBits_onBus .w128 v).symm)⟩)
  case bitwiseUintptr v => exact .inl ⟨rfl, congrArg (s.offerBitwise c (ptrWidth c)) (hp v)⟩
  case parallelUintptr v => exact .inr (.inl ⟨rfl, congrArg (fun x => s.offerResult c (parallel (ptrWidth c).bytes x)) (hp v)⟩)
  case lookupUintptr v => exact .inr (.inr ⟨rfl, congrArg (fun x => s.offerResult c (lookup (ptrWidth c).bytes x)) (hp v)⟩)
  case bitwiseInt8 v => exact .inl ⟨rfl, congrArg (s.offerBitwise c .w8) ((lowBits_onBus .w8 v).symm)⟩
  case parallelInt8 v => exact .inr (.inl ⟨rfl, congrArg (fun x => s.offerResult c (parallel 1 x)) ((lowBits_onBus .w8 v).symm)⟩)
  case lookupInt8 v => exact .inr (.inr ⟨rfl, congrArg (fun x => s.offerResult c (lookup 1 x)) ((lowBits_onBus .w8 v).symm)⟩)
  case bitwiseInt16 v => exact .inl ⟨rfl, congrArg (s.offerBitwise c .w16) ((lowBits_onBus .w16 v).symm)⟩
  case parallelInt16 v => exact .inr (.inl ⟨rfl, congrArg (fun x => s.offerResult c (parallel 2 x)) ((lowBits_onBus .w16 v).symm)⟩)
  case lookupInt16 v => exact .inr (.inr ⟨rfl, congrArg (fun x => s.offerResult c (lookup 2 x)) ((lowBits_onBus .w16 v).symm)⟩)
  case bitwiseInt32 v => exact .inl ⟨rfl, congrArg (s.offerBitwise c .w32) ((lowBits_onBus .w32 v).symm)⟩
  case parallelInt32 v => exact .inr (.inl ⟨rfl, congrArg (fun x => s.offerResult c (parallel 4 x)) ((lowBits_onBus .w32 v).symm)⟩)
  case lookupInt32 v => exact .inr (.inr ⟨rfl, congrArg (fun x => s.offerResult c (lookup 4 x)) ((lowBits_onBus .w32 v).symm)⟩)
  case bitwiseInt64 v => exact .inl ⟨rfl, congrArg (s.offerBitwise c .w64) ((lowBits_onBus .w64 v).symm)⟩
  case parallelInt64 v => exact .inr (.inl ⟨rfl, congrArg (fun x => s.offerResult c (parallel 8 x)) ((lowBits_onBus .w64 v).symm)⟩)
  case lookupInt64 v => exact .inr (.inr ⟨rfl, congrArg (fun x => s.offerResult c (lookup 8 x)) ((lowBits_onBus .w64 v).symm)⟩)
  case bitwiseInt128 v => exact .inl ⟨rfl, congrArg (s.offerBitwise c .w128) ((lowBits_onBus .w128 v).symm)⟩
  case parallelInt128 v => exact .inr (.inl ⟨rfl, congrArg (fun x => s.offerResult c (parallel 16 x)) ((lowBits_onBus .w128 v).symm)⟩)
  case lookupInt128 v => exact .inr (.inr ⟨rfl, congrArg (fun x => s.offerResult c (lookup 16 x)) ((lowBits_onBus .w128 v).symm)⟩)
  case bitwiseIntptr v => exact .inl ⟨rfl, congrArg (s.offerBitwise c (ptrWidth c)) (hp v)⟩
  case parallelIntptr v => exact .inr (.inl ⟨rfl, congrArg (fun x => s.offerResult c (parallel (ptrWidth c).bytes x)) (hp v)⟩)
  case lookupIntptr v => exact .inr (.inr ⟨rfl, congrArg (fun x => s.offerResult c (lookup (ptrWidth c).bytes x)) (hp v)⟩)

/-- Every instruction has a next state, in every state and every build: no operation can fail (R81, R200). -/
theorem execOf_next (c : Config) (i : Instr) (s : State) : ∃ t, execOf c i s = .next t := by
  obtain ⟨-, h⟩ | ⟨-, h⟩ | ⟨-, h⟩ := execOf_forms c i s
  all_goals
    rw [h]
    exact (State.offer_cases c s _).elim (fun g => ⟨_, g.2⟩) fun g => ⟨_, g.2⟩

/-- Everything a step can do when it has a next state, by what stands on the ports and by PHASE (R33). -/
theorem stepOf_cases {c : Config} {s t : State} (h : stepOf c s = .next t) :
    (s.wires.rst = true ∧ t = s.passPorts.resetStep c) ∨
    (s.wires.rst = false ∧ s.wires.req = none ∧ t = s.passPorts.quietStep c) ∨
    (∃ q, s.wires = ⟨false, some q⟩ ∧ s.phase = .busy ∧ t = s.passPorts.advance c) ∨
    (∃ q i, s.wires = ⟨false, some q⟩ ∧ s.phase = .idle ∧ decode c q = .ok i ∧ execOf c i s.passPorts = .next t) := by
  unfold stepOf stepWith at h
  split at h
  · rename_i hw
    cases h
    exact .inl ⟨by rw [hw], rfl⟩
  · rename_i hw
    cases h
    exact .inr (.inl ⟨by rw [hw], by rw [hw], rfl⟩)
  · rename_i q hw
    split at h
    · rename_i hp
      cases h
      exact .inr (.inr (.inl ⟨q, hw, hp, rfl⟩))
    · rename_i hp
      split at h
      · rename_i i hd
        exact .inr (.inr (.inr ⟨q, i, hw, hp, hd, h⟩))
      · cases h

/-- What a step does, by what stands on the ports and by PHASE. -/
theorem stepOf_rst {c : Config} {s : State} (h : s.wires.rst = true) : stepOf c s = .next (s.passPorts.resetStep c) := by
  unfold stepOf stepWith
  split <;> simp_all

theorem stepOf_busy {c : Config} {s : State} (h : s.wires.rst = false) (hp : s.phase = .busy) :
    stepOf c s = .next (s.passPorts.advance c) := by
  have hq : s.passPorts.phase = .busy := hp
  unfold stepOf stepWith
  split
  · simp_all
  · rw [State.quietStep_busy c hq]
  · rw [hp]

theorem stepOf_none {c : Config} {s : State} (h : s.wires = ⟨false, none⟩) (hp : s.phase = .idle) :
    stepOf c s = .next s.passPorts.idleStep := by
  have hq : s.passPorts.phase = .idle := hp
  simp only [stepOf, stepWith, h, State.quietStep_idle c hq]

theorem stepOf_idle {c : Config} {s : State} {q : Request} (h : s.wires = ⟨false, some q⟩) (hp : s.phase = .idle) :
    stepOf c s = match decode c q with
      | .ok i => execOf c i s.passPorts
      | .error why => .refused (.reservedSelector why) := by
  cases hd : decode c q <;> simp only [stepOf, stepWith, h, hp, hd]

/-- The first of the steps of a run, and the run that it starts. -/
theorem run_succ (c : Config) (k : Nat) (s : State) :
    (machineOf c).run (k + 1) s =
      match stepOf c s with
      | .next t => (machineOf c).run k t
      | .fault r => .fault r
      | .refused r => .refused r := by
  cases h : stepOf c s <;> simp only [Host.Core.run, h]

theorem run_succ_next {c : Config} {s t : State} (h : stepOf c s = .next t) (k : Nat) :
    (machineOf c).run (k + 1) s = (machineOf c).run k t := by
  rw [run_succ, h]

end Sys2Proof.Machine
end

