-- ==== Sys2Proof/Laws/PerInstr.lean ====
section
/-! SUPPORT. The family `SelectorFields`: per instruction, the selector that the encoder writes has the fields of the
row of R67 (SGN in bit 5, WSEL in bits 4:2, ALG in bits 1:0), and its value is 32*SGN + 4*WSEL + ALG (R61). -/

namespace Sys2Proof

/-- The fields of the encoded selector are the codes of the instruction's operation (R61). -/
def Laws.SelectorFields.Statement (i : Instr) : Prop :=
  Request.algField (encode i).op = i.operation.alg.code ∧
    Request.wselField (encode i).op = i.operation.width.code ∧
    Request.sgnField (encode i).op = decide (i.operation.sgn = .signed) ∧
    (encode i).op.toNat =
      32 * i.operation.sgn.code.toNat + 4 * i.operation.width.code.toNat + i.operation.alg.code.toNat

/-- The fields of the selector of each of the 36 operations. -/
theorem selector_fields (o : Operation) :
    Request.algField o.selector = o.alg.code ∧ Request.wselField o.selector = o.width.code ∧
      Request.sgnField o.selector = decide (o.sgn = .signed) ∧
      o.selector.toNat = 32 * o.sgn.code.toNat + 4 * o.width.code.toNat + o.alg.code.toNat := by
  rcases o with ⟨_ | _, ⟨_ | _⟩ | _, _ | _⟩ <;> decide

theorem Laws.SelectorFields.bitwiseUint8 (v : BitVec 8) :
    Laws.SelectorFields.Statement (.bitwiseUint8 v) := selector_fields _
theorem Laws.SelectorFields.parallelUint8 (v : BitVec 8) :
    Laws.SelectorFields.Statement (.parallelUint8 v) := selector_fields _
theorem Laws.SelectorFields.lookupUint8 (v : BitVec 8) :
    Laws.SelectorFields.Statement (.lookupUint8 v) := selector_fields _
theorem Laws.SelectorFields.bitwiseUint16 (v : BitVec 16) :
    Laws.SelectorFields.Statement (.bitwiseUint16 v) := selector_fields _
theorem Laws.SelectorFields.parallelUint16 (v : BitVec 16) :
    Laws.SelectorFields.Statement (.parallelUint16 v) := selector_fields _
theorem Laws.SelectorFields.lookupUint16 (v : BitVec 16) :
    Laws.SelectorFields.Statement (.lookupUint16 v) := selector_fields _
theorem Laws.SelectorFields.bitwiseUint32 (v : BitVec 32) :
    Laws.SelectorFields.Statement (.bitwiseUint32 v) := selector_fields _
theorem Laws.SelectorFields.parallelUint32 (v : BitVec 32) :
    Laws.SelectorFields.Statement (.parallelUint32 v) := selector_fields _
theorem Laws.SelectorFields.lookupUint32 (v : BitVec 32) :
    Laws.SelectorFields.Statement (.lookupUint32 v) := selector_fields _
theorem Laws.SelectorFields.bitwiseUint64 (v : BitVec 64) :
    Laws.SelectorFields.Statement (.bitwiseUint64 v) := selector_fields _
theorem Laws.SelectorFields.parallelUint64 (v : BitVec 64) :
    Laws.SelectorFields.Statement (.parallelUint64 v) := selector_fields _
theorem Laws.SelectorFields.lookupUint64 (v : BitVec 64) :
    Laws.SelectorFields.Statement (.lookupUint64 v) := selector_fields _
theorem Laws.SelectorFields.bitwiseUint128 (v : BitVec 128) :
    Laws.SelectorFields.Statement (.bitwiseUint128 v) := selector_fields _
theorem Laws.SelectorFields.parallelUint128 (v : BitVec 128) :
    Laws.SelectorFields.Statement (.parallelUint128 v) := selector_fields _
theorem Laws.SelectorFields.lookupUint128 (v : BitVec 128) :
    Laws.SelectorFields.Statement (.lookupUint128 v) := selector_fields _
theorem Laws.SelectorFields.bitwiseUintptr (v : BitVec 64) :
    Laws.SelectorFields.Statement (.bitwiseUintptr v) := selector_fields _
theorem Laws.SelectorFields.parallelUintptr (v : BitVec 64) :
    Laws.SelectorFields.Statement (.parallelUintptr v) := selector_fields _
theorem Laws.SelectorFields.lookupUintptr (v : BitVec 64) :
    Laws.SelectorFields.Statement (.lookupUintptr v) := selector_fields _
theorem Laws.SelectorFields.bitwiseInt8 (v : BitVec 8) :
    Laws.SelectorFields.Statement (.bitwiseInt8 v) := selector_fields _
theorem Laws.SelectorFields.parallelInt8 (v : BitVec 8) :
    Laws.SelectorFields.Statement (.parallelInt8 v) := selector_fields _
theorem Laws.SelectorFields.lookupInt8 (v : BitVec 8) :
    Laws.SelectorFields.Statement (.lookupInt8 v) := selector_fields _
theorem Laws.SelectorFields.bitwiseInt16 (v : BitVec 16) :
    Laws.SelectorFields.Statement (.bitwiseInt16 v) := selector_fields _
theorem Laws.SelectorFields.parallelInt16 (v : BitVec 16) :
    Laws.SelectorFields.Statement (.parallelInt16 v) := selector_fields _
theorem Laws.SelectorFields.lookupInt16 (v : BitVec 16) :
    Laws.SelectorFields.Statement (.lookupInt16 v) := selector_fields _
theorem Laws.SelectorFields.bitwiseInt32 (v : BitVec 32) :
    Laws.SelectorFields.Statement (.bitwiseInt32 v) := selector_fields _
theorem Laws.SelectorFields.parallelInt32 (v : BitVec 32) :
    Laws.SelectorFields.Statement (.parallelInt32 v) := selector_fields _
theorem Laws.SelectorFields.lookupInt32 (v : BitVec 32) :
    Laws.SelectorFields.Statement (.lookupInt32 v) := selector_fields _
theorem Laws.SelectorFields.bitwiseInt64 (v : BitVec 64) :
    Laws.SelectorFields.Statement (.bitwiseInt64 v) := selector_fields _
theorem Laws.SelectorFields.parallelInt64 (v : BitVec 64) :
    Laws.SelectorFields.Statement (.parallelInt64 v) := selector_fields _
theorem Laws.SelectorFields.lookupInt64 (v : BitVec 64) :
    Laws.SelectorFields.Statement (.lookupInt64 v) := selector_fields _
theorem Laws.SelectorFields.bitwiseInt128 (v : BitVec 128) :
    Laws.SelectorFields.Statement (.bitwiseInt128 v) := selector_fields _
theorem Laws.SelectorFields.parallelInt128 (v : BitVec 128) :
    Laws.SelectorFields.Statement (.parallelInt128 v) := selector_fields _
theorem Laws.SelectorFields.lookupInt128 (v : BitVec 128) :
    Laws.SelectorFields.Statement (.lookupInt128 v) := selector_fields _
theorem Laws.SelectorFields.bitwiseIntptr (v : BitVec 64) :
    Laws.SelectorFields.Statement (.bitwiseIntptr v) := selector_fields _
theorem Laws.SelectorFields.parallelIntptr (v : BitVec 64) :
    Laws.SelectorFields.Statement (.parallelIntptr v) := selector_fields _
theorem Laws.SelectorFields.lookupIntptr (v : BitVec 64) :
    Laws.SelectorFields.Statement (.lookupIntptr v) := selector_fields _

end Sys2Proof
end

