-- ==== Sys2Proof/Tests/Slice0.lean ====
section
/-! SUPPORT. Tests on fixed values (expected results from spec 95_test_vectors.md, the rules cited, or worked by hand from
them), and one witness for each statement with hypotheses: values that meet all of them together. -/

open Sys2Proof Sys2Proof.Machine

namespace Sys2Proof.Tests

/-- Two builds: one with EN128 and PTR_W = 32, one without EN128 and PTR_W = 8. -/
def buildA : Config := ⟨true, .p32⟩
def buildB : Config := ⟨false, .p8⟩

/-- The source's 128-bit operand (V5) under a selector. -/
def word (op : BitVec 6) : Request := ⟨op, 0x0123456789ABCDEF0123456789ABCDEF#128⟩

/-- The block right after reset, with the coming values of its input ports. -/
def idleAt (rst : List Bool) (req : List (Option Request)) : State := { State.reset with rstIn := rst, reqIn := req }

/-- A block in the middle of a Bitwise operation of width 8. -/
def busyAt (r vp : Bus) (s : BitVec 7) (rst : List Bool) (req : List (Option Request)) : State :=
  { State.reset with phase := .busy, regR := r, regVP := vp, regS := s, rstIn := rst, reqIn := req }

/-- The response in the step that led here. -/
def responseOf : Host.Outcome State Fault Refusal → Option Bus
  | .next s => s.rsp
  | _ => none

/-- PHASE, WCUR, R, VP, S. -/
structure Registers where
  phase : Phase
  wcur : Width
  r : Bus
  vp : Bus
  s : BitVec 7
  deriving DecidableEq, Repr

/-- The control state and the working registers after the step. -/
def registersOf : Host.Outcome State Fault Refusal → Option Registers
  | .next s => some ⟨s.phase, s.wcur, s.regR, s.regVP, s.regS⟩
  | _ => none

/-- PHASE, and how many entries are left for `rst` and for the request channel, after the step. -/
def phaseOf : Host.Outcome State Fault Refusal → Option (Phase × Nat × Nat)
  | .next s => some (s.phase, s.rstIn.length, s.reqIn.length)
  | _ => none

/-- Why the step refused. -/
def refusalOf : Host.Outcome State Fault Refusal → Option Refusal
  | .refused r => some r
  | _ => none

/-! ### Well-formedness: each check refuses an ill-formed term -/

/-- R7, R69: no instruction of width 128 without EN128. -/
theorem test_wf_refuses_width_128 :
    Instr.wf buildB (.bitwiseUint128 1) = false ∧ Instr.wf buildB (.parallelInt128 1) = false ∧
    Instr.wf buildA (.bitwiseUint128 1) = true := by decide

/-- R192 to R197: a pointer-width operand has PTR_W bits: 2^8 is one too many at PTR_W = 8. -/
theorem test_wf_refuses_wide_pointer_operand :
    Instr.wf buildB (.lookupUintptr 0x100) = false ∧ Instr.wf buildB (.bitwiseIntptr 0xFF) = true ∧
    Instr.wf buildA (.parallelIntptr 0x100000000) = false := by decide

/-- R9, R61: a request has no data bit at or above DATA_W, 64 without EN128. -/
theorem test_request_wf_refuses_wide_data :
    Request.wf buildB ⟨0#6, 0x10000000000000000#128⟩ = false ∧ Request.wf buildB ⟨0#6, 0xFFFFFFFFFFFFFFFF#128⟩ = true ∧
    Request.wf buildA ⟨0#6, BitVec.allOnes 128⟩ = true := by decide

/-! ### Decoding and encoding: one word for every constructor, written out from SGN, WSEL, ALG of R67 -/

/-- R65, R67: the words of the operation map, SGN WSEL ALG; the bits above the operand are not zero. -/
theorem test_decode_bitwiseUnsigned :
    decode buildA (word 0b000000#6) = .ok (.bitwiseUint8 0xEF#8) ∧
    decode buildA (word 0b000100#6) = .ok (.bitwiseUint16 0xCDEF#16) ∧
    decode buildA (word 0b001000#6) = .ok (.bitwiseUint32 0x89ABCDEF#32) ∧
    decode buildA (word 0b001100#6) = .ok (.bitwiseUint64 0x0123456789ABCDEF#64) ∧
    decode buildA (word 0b010000#6) = .ok (.bitwiseUint128 0x0123456789ABCDEF0123456789ABCDEF#128) := by
  decide

/-- R65, R67: the words of the operation map, SGN WSEL ALG; the bits above the operand are not zero. -/
theorem test_decode_parallelUnsigned :
    decode buildA (word 0b000001#6) = .ok (.parallelUint8 0xEF#8) ∧
    decode buildA (word 0b000101#6) = .ok (.parallelUint16 0xCDEF#16) ∧
    decode buildA (word 0b001001#6) = .ok (.parallelUint32 0x89ABCDEF#32) ∧
    decode buildA (word 0b001101#6) = .ok (.parallelUint64 0x0123456789ABCDEF#64) ∧
    decode buildA (word 0b010001#6) = .ok (.parallelUint128 0x0123456789ABCDEF0123456789ABCDEF#128) := by
  decide

/-- R65, R67: the words of the operation map, SGN WSEL ALG; the bits above the operand are not zero. -/
theorem test_decode_lookupUnsigned :
    decode buildA (word 0b000010#6) = .ok (.lookupUint8 0xEF#8) ∧
    decode buildA (word 0b000110#6) = .ok (.lookupUint16 0xCDEF#16) ∧
    decode buildA (word 0b001010#6) = .ok (.lookupUint32 0x89ABCDEF#32) ∧
    decode buildA (word 0b001110#6) = .ok (.lookupUint64 0x0123456789ABCDEF#64) ∧
    decode buildA (word 0b010010#6) = .ok (.lookupUint128 0x0123456789ABCDEF0123456789ABCDEF#128) := by
  decide

/-- R65, R67: the words of the operation map, SGN WSEL ALG; the bits above the operand are not zero. -/
theorem test_decode_pointer :
    decode buildA (word 0b010100#6) = .ok (.bitwiseUintptr 0x0000000089ABCDEF#64) ∧
    decode buildA (word 0b010101#6) = .ok (.parallelUintptr 0x0000000089ABCDEF#64) ∧
    decode buildA (word 0b010110#6) = .ok (.lookupUintptr 0x0000000089ABCDEF#64) ∧
    decode buildA (word 0b110100#6) = .ok (.bitwiseIntptr 0x0000000089ABCDEF#64) ∧
    decode buildA (word 0b110101#6) = .ok (.parallelIntptr 0x0000000089ABCDEF#64) ∧
    decode buildA (word 0b110110#6) = .ok (.lookupIntptr 0x0000000089ABCDEF#64) := by
  decide

/-- R65, R67: the words of the operation map, SGN WSEL ALG; the bits above the operand are not zero. -/
theorem test_decode_bitwiseSigned :
    decode buildA (word 0b100000#6) = .ok (.bitwiseInt8 0xEF#8) ∧
    decode buildA (word 0b100100#6) = .ok (.bitwiseInt16 0xCDEF#16) ∧
    decode buildA (word 0b101000#6) = .ok (.bitwiseInt32 0x89ABCDEF#32) ∧
    decode buildA (word 0b101100#6) = .ok (.bitwiseInt64 0x0123456789ABCDEF#64) ∧
    decode buildA (word 0b110000#6) = .ok (.bitwiseInt128 0x0123456789ABCDEF0123456789ABCDEF#128) := by
  decide

/-- R65, R67: the words of the operation map, SGN WSEL ALG; the bits above the operand are not zero. -/
theorem test_decode_parallelSigned :
    decode buildA (word 0b100001#6) = .ok (.parallelInt8 0xEF#8) ∧
    decode buildA (word 0b100101#6) = .ok (.parallelInt16 0xCDEF#16) ∧
    decode buildA (word 0b101001#6) = .ok (.parallelInt32 0x89ABCDEF#32) ∧
    decode buildA (word 0b101101#6) = .ok (.parallelInt64 0x0123456789ABCDEF#64) ∧
    decode buildA (word 0b110001#6) = .ok (.parallelInt128 0x0123456789ABCDEF0123456789ABCDEF#128) := by
  decide

/-- R65, R67: the words of the operation map, SGN WSEL ALG; the bits above the operand are not zero. -/
theorem test_decode_lookupSigned :
    decode buildA (word 0b100010#6) = .ok (.lookupInt8 0xEF#8) ∧
    decode buildA (word 0b100110#6) = .ok (.lookupInt16 0xCDEF#16) ∧
    decode buildA (word 0b101010#6) = .ok (.lookupInt32 0x89ABCDEF#32) ∧
    decode buildA (word 0b101110#6) = .ok (.lookupInt64 0x0123456789ABCDEF#64) ∧
    decode buildA (word 0b110010#6) = .ok (.lookupInt128 0x0123456789ABCDEF0123456789ABCDEF#128) := by
  decide

/-- R67: the mnemonics of the operation map. -/
theorem test_mnemonic_bitwiseUnsigned :
    (Instr.bitwiseUint8 0).operation.mnemonic = "swap_bits.bitwise.uint8" ∧
    (Instr.bitwiseUint16 0).operation.mnemonic = "swap_bits.bitwise.uint16" ∧
    (Instr.bitwiseUint32 0).operation.mnemonic = "swap_bits.bitwise.uint32" ∧
    (Instr.bitwiseUint64 0).operation.mnemonic = "swap_bits.bitwise.uint64" ∧
    (Instr.bitwiseUint128 0).operation.mnemonic = "swap_bits.bitwise.uint128" := by
  decide

/-- R67: the mnemonics of the operation map. -/
theorem test_mnemonic_parallelUnsigned :
    (Instr.parallelUint8 0).operation.mnemonic = "swap_bits.parallel.uint8" ∧
    (Instr.parallelUint16 0).operation.mnemonic = "swap_bits.parallel.uint16" ∧
    (Instr.parallelUint32 0).operation.mnemonic = "swap_bits.parallel.uint32" ∧
    (Instr.parallelUint64 0).operation.mnemonic = "swap_bits.parallel.uint64" ∧
    (Instr.parallelUint128 0).operation.mnemonic = "swap_bits.parallel.uint128" := by
  decide

/-- R67: the mnemonics of the operation map. -/
theorem test_mnemonic_lookupUnsigned :
    (Instr.lookupUint8 0).operation.mnemonic = "swap_bits.lookup.uint8" ∧
    (Instr.lookupUint16 0).operation.mnemonic = "swap_bits.lookup.uint16" ∧
    (Instr.lookupUint32 0).operation.mnemonic = "swap_bits.lookup.uint32" ∧
    (Instr.lookupUint64 0).operation.mnemonic = "swap_bits.lookup.uint64" ∧
    (Instr.lookupUint128 0).operation.mnemonic = "swap_bits.lookup.uint128" := by
  decide

/-- R67: the mnemonics of the operation map. -/
theorem test_mnemonic_pointer :
    (Instr.bitwiseUintptr 0).operation.mnemonic = "swap_bits.bitwise.uintptr" ∧
    (Instr.parallelUintptr 0).operation.mnemonic = "swap_bits.parallel.uintptr" ∧
    (Instr.lookupUintptr 0).operation.mnemonic = "swap_bits.lookup.uintptr" ∧
    (Instr.bitwiseIntptr 0).operation.mnemonic = "swap_bits.bitwise.intptr" ∧
    (Instr.parallelIntptr 0).operation.mnemonic = "swap_bits.parallel.intptr" ∧
    (Instr.lookupIntptr 0).operation.mnemonic = "swap_bits.lookup.intptr" := by
  decide

/-- R67: the mnemonics of the operation map. -/
theorem test_mnemonic_bitwiseSigned :
    (Instr.bitwiseInt8 0).operation.mnemonic = "swap_bits.bitwise.int8" ∧
    (Instr.bitwiseInt16 0).operation.mnemonic = "swap_bits.bitwise.int16" ∧
    (Instr.bitwiseInt32 0).operation.mnemonic = "swap_bits.bitwise.int32" ∧
    (Instr.bitwiseInt64 0).operation.mnemonic = "swap_bits.bitwise.int64" ∧
    (Instr.bitwiseInt128 0).operation.mnemonic = "swap_bits.bitwise.int128" := by
  decide

/-- R67: the mnemonics of the operation map. -/
theorem test_mnemonic_parallelSigned :
    (Instr.parallelInt8 0).operation.mnemonic = "swap_bits.parallel.int8" ∧
    (Instr.parallelInt16 0).operation.mnemonic = "swap_bits.parallel.int16" ∧
    (Instr.parallelInt32 0).operation.mnemonic = "swap_bits.parallel.int32" ∧
    (Instr.parallelInt64 0).operation.mnemonic = "swap_bits.parallel.int64" ∧
    (Instr.parallelInt128 0).operation.mnemonic = "swap_bits.parallel.int128" := by
  decide

/-- R67: the mnemonics of the operation map. -/
theorem test_mnemonic_lookupSigned :
    (Instr.lookupInt8 0).operation.mnemonic = "swap_bits.lookup.int8" ∧
    (Instr.lookupInt16 0).operation.mnemonic = "swap_bits.lookup.int16" ∧
    (Instr.lookupInt32 0).operation.mnemonic = "swap_bits.lookup.int32" ∧
    (Instr.lookupInt64 0).operation.mnemonic = "swap_bits.lookup.int64" ∧
    (Instr.lookupInt128 0).operation.mnemonic = "swap_bits.lookup.int128" := by
  decide


/-- The decode vectors 0x03, 0x18, 0x1B, 0x3D and 0x30 of 95_test_vectors.md section 8: reserved codes. -/
theorem test_decode_reserved :
    decode buildA (word 0b000011#6) = .error .alg ∧ decode buildA (word 0b011000#6) = .error .wsel ∧
    decode buildA (word 0b011011#6) = .error .alg ∧ decode buildA (word 0b111101#6) = .error .wsel ∧
    decode buildB (word 0b110000#6) = .error .width128 ∧ decode buildB (word 0b010100#6) = .ok (.bitwiseUintptr 0xEF) := by
  decide

/-- R61, R66: the selector is 32*SGN + 4*WSEL + ALG, the operand has zeros above it on the bus, also when negative. -/
theorem test_encode :
    encode (.lookupInt16 0xABCD) = ⟨0x26#6, 0xABCD#128⟩ ∧ encode (.parallelUint128 7) = ⟨0x11#6, 7#128⟩ ∧
    encode (.bitwiseIntptr 0xAB) = ⟨0x34#6, 0xAB#128⟩ := by decide

/-- The table's words, in 8 bits: the operand is 0. -/
theorem test_decodeTableWord :
    decodeTableWord 8 0x05 = some (.parallelUint16 0) ∧ decodeTableWord 8 0x36 = some (.lookupIntptr 0) ∧
    decodeTableWord 8 0x07 = none ∧ decodeTableWord 14 (0x02 + 64 * 0xAB) = some (.lookupUint8 0xAB) := by decide

/-! ### What each instruction answers (V1 to V6, S1, Q1, Q9, Q14, E3, B32 of 95_test_vectors.md) -/

/-- V1 to V5, Parallel. -/
theorem test_parallelUnsigned :
    responseOf (exec (.parallelUint8 0xAB) (idleAt [] [])) = some 0xD5 ∧
    responseOf (exec (.parallelUint16 0xABCD) (idleAt [] [])) = some 0xB3D5 ∧
    responseOf (exec (.parallelUint32 0xABCD2345) (idleAt [] [])) = some 0xA2C4B3D5 ∧
    responseOf (exec (.parallelUint64 0x0123456789ABCDEF) (idleAt [] [])) = some 0xF7B3D591E6A2C480 ∧
    responseOf (exec (.parallelUint128 0x0123456789ABCDEF0123456789ABCDEF) (idleAt [] [])) =
      some 0xF7B3D591E6A2C480F7B3D591E6A2C480 := by decide +kernel

/-- S1, S4, S11 and the same bits as V3, V5: no sign extension (E3). -/
theorem test_parallelSigned :
    responseOf (exec (.parallelInt8 0x01) (idleAt [] [])) = some 0x80 ∧
    responseOf (exec (.parallelInt16 0x8000) (idleAt [] [])) = some 0x0001 ∧
    responseOf (exec (.parallelInt32 0xABCD2345) (idleAt [] [])) = some 0xA2C4B3D5 ∧
    responseOf (exec (.parallelInt64 0xFFFFFFFFFFFFFFFE) (idleAt [] [])) = some 0x7FFFFFFFFFFFFFFF ∧
    responseOf (exec (.parallelInt128 1) (idleAt [] [])) = some 0x80000000000000000000000000000000 := by
  decide +kernel

/-- L1 to L5, Lookup. -/
theorem test_lookupUnsigned :
    responseOf (exec (.lookupUint8 0xAB) (idleAt [] [])) = some 0xD5 ∧
    responseOf (exec (.lookupUint16 0xABCD) (idleAt [] [])) = some 0xB3D5 ∧
    responseOf (exec (.lookupUint32 0xABCD2345) (idleAt [] [])) = some 0xA2C4B3D5 ∧
    responseOf (exec (.lookupUint64 0xDEADBEEFCAFEF00D) (idleAt [] [])) = some 0xB00F7F53F77DB57B ∧
    responseOf (exec (.lookupUint128 0x0123456789ABCDEF0123456789ABCDEF) (idleAt [] [])) =
      some 0xF7B3D591E6A2C480F7B3D591E6A2C480 := by decide +kernel

/-- S5, S12, S20, S23, S27, Lookup. -/
theorem test_lookupSigned :
    responseOf (exec (.lookupInt8 0x80) (idleAt [] [])) = some 0x01 ∧
    responseOf (exec (.lookupInt16 0xFFFE) (idleAt [] [])) = some 0x7FFF ∧
    responseOf (exec (.lookupInt32 0x12345678) (idleAt [] [])) = some 0x1E6A2C48 ∧
    responseOf (exec (.lookupInt64 0x8000000000000000) (idleAt [] [])) = some 1 ∧
    responseOf (exec (.lookupInt128 1) (idleAt [] [])) = some 0x80000000000000000000000000000000 := by
  decide +kernel

/-- Q1, Q3, Q11, Q13 and their like: the same operand at PTR_W = 8 and 32. -/
theorem test_pointer :
    responseOf (execOf buildB (.lookupUintptr 0xABCD2345) (idleAt [] [])) = some 0xA2 ∧
    responseOf (execOf buildA (.lookupUintptr 0xABCD2345) (idleAt [] [])) = some 0xA2C4B3D5 ∧
    responseOf (execOf buildB (.parallelUintptr 0xFF) (idleAt [] [])) = some 0xFF ∧
    responseOf (execOf buildA (.parallelIntptr 0xABCD2345) (idleAt [] [])) = some 0xA2C4B3D5 ∧
    responseOf (execOf buildB (.lookupIntptr 0xFF) (idleAt [] [])) = some 0xFF := by decide +kernel

/-- Row 1 of T1, T2, T6 and the loads of B32 and B38: R, VP and S at accept. -/
theorem test_bitwiseUnsigned :
    registersOf (exec (.bitwiseUint8 0xAB) (idleAt [] [])) = some ⟨.busy, .w8, 0xAB, 0x55, 7⟩ ∧
    registersOf (exec (.bitwiseUint16 0xABCD) (idleAt [] [])) = some ⟨.busy, .w16, 0xABCD, 0x55E6, 15⟩ ∧
    registersOf (exec (.bitwiseUint32 0xFF) (idleAt [] [])) = some ⟨.busy, .w32, 0xFF, 0x7F, 31⟩ ∧
    registersOf (exec (.bitwiseUint64 0x8000000000000000) (idleAt [] [])) =
      some ⟨.busy, .w64, 0x8000000000000000, 0x4000000000000000, 63⟩ ∧
    registersOf (exec (.bitwiseUint128 0x80000000000000000000000000000000) (idleAt [] [])) =
      some ⟨.busy, .w128, 0x80000000000000000000000000000000, 0x40000000000000000000000000000000, 127⟩ := by
  decide +kernel

/-- R165, R227: the right shift is logical for signed operands too (all of these are negative). -/
theorem test_bitwiseSigned :
    registersOf (exec (.bitwiseInt8 0xD5) (idleAt [] [])) = some ⟨.busy, .w8, 0xD5, 0x6A, 7⟩ ∧
    registersOf (exec (.bitwiseInt16 0x8000) (idleAt [] [])) = some ⟨.busy, .w16, 0x8000, 0x4000, 15⟩ ∧
    registersOf (exec (.bitwiseInt32 0xFFFFFFFE) (idleAt [] [])) = some ⟨.busy, .w32, 0xFFFFFFFE, 0x7FFFFFFF, 31⟩ ∧
    registersOf (exec (.bitwiseInt64 0x8000000000000001) (idleAt [] [])) =
      some ⟨.busy, .w64, 0x8000000000000001, 0x4000000000000000, 63⟩ ∧
    registersOf (exec (.bitwiseInt128 0x80000000000000000000000000000000) (idleAt [] [])) =
      some ⟨.busy, .w128, 0x80000000000000000000000000000000, 0x40000000000000000000000000000000, 127⟩ := by
  decide +kernel

/-- R192, R195: the pointer-width Bitwise forms load the low PTR_W bits at width PTR_W. -/
theorem test_bitwisePointer :
    registersOf (execOf buildB (.bitwiseUintptr 0xABCD2345) (idleAt [] [])) = some ⟨.busy, .w8, 0x45, 0x22, 7⟩ ∧
    registersOf (execOf buildA (.bitwiseIntptr 0x80000000) (idleAt [] [])) =
      some ⟨.busy, .w32, 0x80000000, 0x40000000, 31⟩ := by decide +kernel

/-! ### Values of the algorithms and the ROM -/

/-- B6, B25, B32 and B3: the operation-level function. -/
theorem test_bitwise_values :
    bitwise 0x10#8 = 0x08#8 ∧ bitwise 0x12345678#32 = 0x1E6A2C48#32 ∧
    bitwise 0x0123456789ABCDEF#64 = 0xF7B3D591E6A2C480#64 ∧ iters 0x0123456789ABCDEF#64 = 56 ∧
    (bwLoop 8 (bwInit 0x02#8)).r = 0x05#8 ∧ (bwLoop 8 (bwInit 0x02#8)).s = 6 := by decide +kernel

/-- P2: the three passes and the byte-swap, one after the other; and R127, the wrong mask that must not be used. -/
theorem test_parallel_passes :
    swapPass 1 (mask1 2) 0xABCD#16 = 0x57CE#16 ∧ swapPass 2 (mask2 2) 0x57CE#16 = 0x5D3B#16 ∧
    swapPass 4 (mask4 2) 0x5D3B#16 = 0xD5B3#16 ∧ bswap 2 0xD5B3#16 = 0xB3D5#16 ∧
    swapPass 1 0x0055#16 0xABCD#16 = 0x00CE#16 := by decide +kernel

/-- The spot values of 95_test_vectors.md section 9, and L3's reads in the order of the bytes. -/
theorem test_rom :
    romRead 0x01 = 0x80 ∧ romRead 0x0F = 0xF0 ∧ romRead 0x55 = 0xAA ∧ romRead 0x7F = 0xFE ∧ romRead 0xAB = 0xD5 ∧
    (lookupReads 4 0xABCD2345#32).map romRead = [0xA2, 0xC4, 0xB3, 0xD5] := by decide +kernel

/-- S1, S4, S6: the signed readings. -/
theorem test_sval : sval 0xAB#8 = -85 ∧ sval 0x80#8 = -128 ∧ sval 0x7F#8 = 127 := by decide

/-! ### One step -/

/-- T4, step 4 to 5: the bit that passes bit 7 is lost. -/
theorem test_iterate_drops_top_bit :
    registersOf (step (busyAt 0x80 0x01 4 [] [])) = some ⟨.busy, .w8, 0x01, 0x00, 3⟩ := by decide +kernel

/-- T3, step 4, with register bits above the width set: they are ignored (R23, R228). -/
theorem test_complete_shifts :
    responseOf (step (busyAt 0xFF1B 0x100 5 [] [])) = some 0x60 ∧
    phaseOf (step (busyAt 0xFF1B 0x100 5 [] [])) = some (.idle, 0, 0) := by decide +kernel

/-- R203: reset wins over a request and over an operation about to respond; the request is presented still. -/
theorem test_reset_wins :
    responseOf (step (busyAt 0x1B 0 5 [true] [some (word 0)])) = none ∧
    phaseOf (step (busyAt 0x1B 0 5 [true] [some (word 0)])) = some (.idle, 0, 1) := by decide +kernel

/-- R33: a request presented while BUSY is held; one presented while IDLE is taken. -/
theorem test_held_and_taken :
    phaseOf (step (busyAt 0x80 0x01 4 [] [some (word 1)])) = some (.busy, 0, 1) ∧
    responseOf (step (idleAt [] [some (word 1)])) = some 0xF7 ∧
    phaseOf (step (idleAt [] [some (word 1)])) = some (.idle, 0, 0) := by decide +kernel

/-- R33, R203: reset comes in a later step of a hold and lasts two steps: the operation in flight goes on, then it is dropped,
and the request waits while `rst` is 1. -/
theorem test_reset_during_a_hold :
    phaseOf (step (busyAt 0x80 0x01 4 [false, true, true] [some (word 1)])) = some (.busy, 2, 1) ∧
    phaseOf (step (busyAt 0x01 0 3 [true, true] [some (word 1)])) = some (.idle, 1, 1) ∧
    phaseOf (step (idleAt [true] [some (word 1)])) = some (.idle, 0, 1) ∧
    responseOf (step (idleAt [true] [some (word 1)])) = none := by decide +kernel

/-- E1, E5, E7, E8 through the step of a build. -/
theorem test_step_decodes :
    responseOf (stepOf buildB (idleAt [] [some ⟨0x01#6, 0xFFFFFFFFFFFFFFAB#128⟩])) = some 0xD5 ∧
    refusalOf (stepOf buildB (idleAt [] [some ⟨0x03#6, 1#128⟩])) = some (.reservedSelector .alg) ∧
    refusalOf (stepOf buildB (idleAt [] [some ⟨0x11#6, 1#128⟩])) = some (.reservedSelector .width128) ∧
    responseOf (stepOf buildA (idleAt [] [some ⟨0x11#6, 1#128⟩])) = some 0x80000000000000000000000000000000 := by
  decide +kernel

/-- The word of `swap_bits.lookup.uint8` with operand 0xAB runs as the first request after reset. -/
theorem test_withFetchWord :
    responseOf (step (State.reset.withFetchWord 14 (0x02 + 64 * 0xAB))) = some 0xD5 ∧
    registersOf (step (State.reset.withFetchWord 8 0x04)) = some ⟨.busy, .w16, 0, 0, 15⟩ := by decide +kernel

/-- R35: after reset nothing responds and the block is ready; with nothing presented it stays so. -/
theorem test_reset :
    State.reset.reqReady = true ∧ State.reset.rspValid = false ∧ phaseOf (step State.reset) = some (.idle, 0, 0) := by
  decide

/-! ### Witnesses: the hypotheses of each statement are met, at the boundary values of their ranges -/

theorem witness_ReversalByBitsAndByNumber : 0 < Width.w8.bits ∧ 127 < Width.w128.bits := by decide

theorem witness_FixedPointsArePalindromes :
    ((0 : BitVec 8) = 0 ∨ (0 : BitVec 8) = BitVec.allOnes 8) ∧ ((0xFF : BitVec 8) = 0 ∨ (0xFF : BitVec 8) = BitVec.allOnes 8) ∧
    (0 < Width.w8.bits ∧ 7 < Width.w8.bits) := by decide

theorem witness_ReversalByteByByte : 0 < Width.w8.bytes ∧ 15 < Width.w128.bytes := by decide

theorem witness_ReversalCommutesWithBitOperations :
    (0 < Width.w8.bits ∧ 7 < Width.w8.bits) ∧ (0 ≤ Width.w8.bits ∧ 8 ≤ Width.w8.bits) ∧
    (0 < Width.w128.bits ∧ 127 < Width.w128.bits) := by decide

theorem witness_ByteSwapMovesWholeBytes : (0 < Width.w8.bytes ∧ 0 < 8) ∧ (15 < Width.w128.bytes ∧ 7 < 8) := by decide

theorem witness_MasksSelectTheLowGroups : 0 < Width.w8.bits ∧ 127 < Width.w128.bits := by decide

theorem witness_PassExchangesNeighbouringGroups :
    ∀ w : Width, ∀ k ∈ [1, 2, 4], 0 < w.bits ∧ ∃ m : BitVec w.bits,
      (k = 1 ∧ m = mask1 w.bytes) ∨ (k = 2 ∧ m = mask2 w.bytes) ∨ (k = 4 ∧ m = mask4 w.bytes) := by
  intro w k hk
  refine ⟨by cases w <;> decide, ?_⟩
  simp only [List.mem_cons, List.not_mem_nil, or_false] at hk
  obtain rfl | rfl | rfl := hk
  · exact ⟨_, .inl ⟨rfl, rfl⟩⟩
  · exact ⟨_, .inr (.inl ⟨rfl, rfl⟩)⟩
  · exact ⟨_, .inr (.inr ⟨rfl, rfl⟩)⟩

theorem witness_PassLosesNothing :
    ∀ w : Width, ∀ k ∈ [1, 2, 4], ∃ m : BitVec w.bits,
      (k = 1 ∧ m = mask1 w.bytes) ∨ (k = 2 ∧ m = mask2 w.bytes) ∨ (k = 4 ∧ m = mask4 w.bytes) :=
  fun w k hk => (witness_PassExchangesNeighbouringGroups w k hk).2

theorem witness_ThreePassesReverseEachByte : 0 < Width.w8.bytes ∧ 15 < Width.w128.bytes := by decide

theorem witness_RomHoldsTheReversals : 0 < 8 ∧ 7 < 8 := by decide

theorem witness_LookupReadsAndPlacesEveryByte :
    (0 < Width.w8.bytes ∧ (lookupReads 1 0xAB#8)[0]? = some 0xAB) ∧
    (15 < Width.w128.bytes ∧ (lookupReads 16 (BitVec.allOnes 128))[15]? = some 0xFF) := by decide +kernel

theorem witness_LoopInvariantAndResult : 0 < Width.w8.bits ∧ 127 < Width.w128.bits := by decide

/-- The operands 0, 1 (no iteration), 2 (one) and 0xFF (seven): each clause's hypothesis, at its boundary. -/
theorem witness_LoopRunsToTheHighestSetBit :
    (0 < iters 2#8) ∧ (uval 0#8 ≤ 1 ∧ uval 1#8 ≤ 1) ∧ (1 < uval 2#8 ∧ iters 2#8 < 2) ∧ 1 < uval 0xFF#8 := by
  decide +kernel

theorem witness_IterationCountBounds :
    (0 ≤ iters 0#8) ∧ (7 ≤ iters 0xFF#8) ∧ (bwStep^[0] (bwInit 0xFF#8)).vp ≠ 0 ∧
    (bwStep^[6] (bwInit 0xFF#8)).vp ≠ 0 := by decide +kernel

theorem witness_BitwiseCornerCases :
    ((0, 0, 0, 8 - 1, 0) : Nat × Nat × Nat × Nat × Nat) ∈
      [(0, 0, 0, 8 - 1, 0), (1, 0, 1, 8 - 1, 2 ^ (8 - 1)), (2, 1, 5, 8 - 2, 2 ^ (8 - 2)),
        (2 ^ (8 - 1), 8 - 1, 1, 0, 1), (2 ^ 8 - 1, 8 - 1, 2 ^ 8 - 1, 0, 2 ^ 8 - 1),
        (2 ^ (8 - 1) - 1, 8 - 2, 2 ^ 8 - 1, 1, 2 ^ 8 - 2)] := by decide

theorem witness_SignedReadingOfTheResult :
    sval 0xFF#8 < 0 ∧ sval 0x80#8 < 0 ∧ sval 0x01#8 = 1 ∧ sval 0x80#8 = -2 ^ (8 - 1) ∧ sval 0xFF#8 = -1 ∧
    sval 0x00#8 = 0 ∧ sval 0x7F#8 = 2 ^ (8 - 1) - 1 ∧ sval 0xFE#8 = -2 := by decide

theorem witness_ReinterpretationKeepsTheBits :
    (0 < 2 ^ Width.w8.bits ∧ 255 < 2 ^ Width.w8.bits) ∧
    ((-2 ^ (8 - 1) : Int) ≤ -128 ∧ (-128 : Int) < 2 ^ (8 - 1)) ∧
    ((-2 ^ (8 - 1) : Int) ≤ 127 ∧ (127 : Int) < 2 ^ (8 - 1)) := by decide

theorem witness_DecodeOfEncodeIsTheInstruction :
    Instr.wf buildA (.parallelInt128 (BitVec.allOnes 128)) = true ∧ Instr.wf buildB (.bitwiseUintptr 0xFF) = true ∧
    Instr.wf buildB (.lookupUint8 0) = true := by decide

theorem witness_EncodeOfDecodeIsTheRequest :
    decode buildA (word 0b010001#6) = .ok (.parallelUint128 0x0123456789ABCDEF0123456789ABCDEF) ∧
    decode buildB (word 0b110110#6) = .ok (.lookupIntptr 0xEF) := by decide

theorem witness_OperationMapHasThirtySixCodes : buildA.en128 = true := by decide

theorem witness_OtherWidthsDecodeAlikeWithoutEn128 :
    (0b001101#6).extractLsb' 2 3 ≠ 0b100#3 ∧ (0b110101#6).extractLsb' 2 3 ≠ 0b100#3 := by decide

theorem witness_DataBitsAboveTheWidthAreIgnored :
    decodeOp buildA 0b000001#6 = .ok ⟨.parallel, .fixed .w8, .unsigned⟩ ∧
    lowBits ((WidthName.fixed .w8).width buildA) 0xFFFFFFFFFFFFFFAB = lowBits ((WidthName.fixed .w8).width buildA) 0xAB := by
  decide

theorem witness_BitwiseUnsignedTakesTheRequest : (idleAt [] []).phase = .idle := rfl
theorem witness_BitwiseSignedTakesTheRequest : (idleAt [] []).phase = .idle := rfl
theorem witness_BitwisePointerTakesTheRequest : (idleAt [] []).phase = .idle := rfl
theorem witness_ParallelUnsignedResponds : (idleAt [] []).phase = .idle := rfl
theorem witness_ParallelSignedResponds : (idleAt [] []).phase = .idle := rfl
theorem witness_ParallelPointerResponds : (idleAt [] []).phase = .idle := rfl
theorem witness_LookupUnsignedResponds : (idleAt [] []).phase = .idle := rfl
theorem witness_LookupSignedResponds : (idleAt [] []).phase = .idle := rfl
theorem witness_LookupPointerResponds : (idleAt [] []).phase = .idle := rfl

/-- One request meets the hypotheses in a build of each kind. -/
theorem witness_Width128IsRefusedWithoutEn128 :
    (idleAt [] [some (word 0x32#6)]).phase = .idle ∧
    (idleAt [] [some (word 0x32#6)]).wires =
      { rst := false, req := some ⟨Signedness.signed.code ++ 0b100#3 ++ Alg.lookup.code, (word 0).data⟩ } ∧
    buildB.en128 = false ∧ buildA.en128 = true := by decide

theorem witness_NoInstructionIsTakenWhileBusy : (busyAt 0x80 0x01 4 [] []).phase = .busy := rfl

/-- A request of a fixed width, whatever the build at hand. -/
theorem witness_StepRunsTheDecodedInstruction :
    (idleAt [] [some (word 0x25#6)]).phase = .idle ∧ (idleAt [] [some (word 0x25#6)]).wires.rst = false ∧
    (idleAt [] [some (word 0x25#6)]).reqIn = some (word 0x25#6) :: [] ∧
    decode Config.build (word 0x25#6) = .ok (.parallelInt16 0xCDEF) := ⟨rfl, rfl, rfl, rfl⟩

theorem witness_ReservedRequestIsRefused :
    (idleAt [] [some (word 0x1A#6)]).phase = .idle ∧
    (idleAt [] [some (word 0x1A#6)]).wires = { rst := false, req := some (word 0x1A#6) } ∧
    decodeOp Config.build (word 0x1A#6).op = .error .wsel := ⟨rfl, rfl, rfl⟩

theorem witness_OnlyReservedRequestsAreRefused :
    step (idleAt [] [some (word 0x3F#6)]) = .refused (.reservedSelector .alg) := rfl

theorem witness_IdleStepChangesNothing :
    (idleAt [] []).phase = .idle ∧ (idleAt [] []).wires = { rst := false, req := none } ∧
    (idleAt [false] [none]).wires = { rst := false, req := none } := by decide

theorem witness_IterateStepShiftsOneBitAcross :
    (busyAt 0x80 0x01 4 [] [some (word 0)]).phase = .busy ∧ (busyAt 0x80 0x01 4 [] [some (word 0)]).wires.rst = false ∧
    lowBits (busyAt 0x80 0x01 4 [] [some (word 0)]).wcur (busyAt 0x80 0x01 4 [] [some (word 0)]).regVP ≠ 0 := by decide

theorem witness_CompleteStepResponds :
    (busyAt 0x1B 0x100 5 [] []).phase = .busy ∧ (busyAt 0x1B 0x100 5 [] []).wires.rst = false ∧
    lowBits (busyAt 0x1B 0x100 5 [] []).wcur (busyAt 0x1B 0x100 5 [] []).regVP = 0 := by decide

/-- Without a reset, and with one. -/
theorem witness_RequestIsHeldWhileBusy :
    (busyAt 0x1B 0 5 [] [some (word 0)]).phase = .busy ∧ (busyAt 0x1B 0 5 [] [some (word 0)]).wires.req = some (word 0) ∧
    (busyAt 0x1B 0 5 [true] [some (word 0)]).phase = .busy ∧
    (busyAt 0x1B 0 5 [true] [some (word 0)]).wires.req = some (word 0) := by decide

theorem witness_ResetWinsInAnyPhase :
    ((busyAt 0x1B 0 5 [true] [some (word 0)]).wires.rst = true ∧
      (busyAt 0x1B 0 5 [true] [some (word 0)]).wires.req = some (word 0)) ∧
    ((idleAt [true] []).wires.rst = true ∧ (idleAt [true] []).wires.req = none) := by decide

/-- A run with a step in it, in each build: a Parallel request, answered. -/
theorem witness_NoStepChangesTheBuild :
    (∃ t, (machineOf buildA).run 1 (idleAt [] [some (word 1)]) = .next t ∧ t.phase = .idle ∧ t.wires.rst = false) ∧
    ∃ t, (machineOf buildB).run 1 (idleAt [] [some (word 1)]) = .next t ∧ t.phase = .idle ∧ t.wires.rst = false :=
  ⟨⟨_, rfl, rfl, rfl⟩, ⟨_, rfl, rfl, rfl⟩⟩

theorem witness_OnlyBitwiseRequestsMakeTheBlockBusy :
    ∃ t, (idleAt [] [some (word 0)]).phase = .idle ∧ step (idleAt [] [some (word 0)]) = .next t ∧ t.phase = .busy :=
  ⟨_, rfl, rfl, rfl⟩

/-- Both of its cases: a complete step, and a request answered in the step that takes it. -/
theorem witness_ResponsesComeOnlyFromOperations :
    (∃ t, step (busyAt 0x1B 0 5 [] []) = .next t ∧ t.rsp = some 0x60) ∧
    ∃ t, step (idleAt [] [some (word 0x01#6)]) = .next t ∧ t.rsp = some 0xF7 :=
  ⟨⟨_, rfl, by decide +kernel⟩, ⟨_, rfl, by decide +kernel⟩⟩

/-- A block that has just taken the operand 6 is in the middle of its operation, in every build. -/
theorem inFlight_busy (c : Config) : InFlight c (busyAt 0x06 0x03 7 [] []) := by
  intro _
  refine ⟨rfl, 0x06#8, 0, Nat.zero_le _, by decide, by decide, ?_⟩
  intro i hi
  have h : ∀ i, i < 8 → (0x06#8).getLsbD i = if i < 0 then (0x06#8).getLsbD (0 - i) else (0x06#8).getLsbD (i - 0) := by
    decide
  exact h i hi

theorem fitsTheWires_busy (c : Config) : FitsTheWires c (busyAt 0x06 0x03 7 [] []) := by
  obtain ⟨_ | _, _ | _ | _ | _⟩ := c <;> exact ⟨by decide, by decide, by decide, fun _ h => nomatch h⟩

theorem witness_StepKeepsTheOperationInFlight :
    (∃ t, InFlight Config.build (busyAt 0x06 0x03 7 [] []) ∧ step (busyAt 0x06 0x03 7 [] []) = .next t) ∧
    ∃ t, InFlight buildB (busyAt 0x06 0x03 7 [] []) ∧ stepOf buildB (busyAt 0x06 0x03 7 [] []) = .next t :=
  ⟨⟨_, inFlight_busy _, rfl⟩, ⟨_, inFlight_busy _, rfl⟩⟩

theorem witness_StepKeepsTheWiresFitting :
    (∃ t, InFlight Config.build (busyAt 0x06 0x03 7 [] []) ∧ FitsTheWires Config.build (busyAt 0x06 0x03 7 [] []) ∧
      step (busyAt 0x06 0x03 7 [] []) = .next t) ∧
    ∃ t, InFlight buildB (busyAt 0x06 0x03 7 [] []) ∧ FitsTheWires buildB (busyAt 0x06 0x03 7 [] []) ∧
      stepOf buildB (busyAt 0x06 0x03 7 [] []) = .next t :=
  ⟨⟨_, inFlight_busy _, fitsTheWires_busy _, rfl⟩, ⟨_, inFlight_busy _, fitsTheWires_busy _, rfl⟩⟩

/-- Operand 2 at width 8, signed: one iteration; another request waits behind it, and `rst` comes only afterwards. -/
theorem witness_BitwiseOperationAnswersInItsStepCount :
    (idleAt [false, false, false, true] [some ⟨0x20#6, 2⟩, some (word 1)]).phase = .idle ∧
    (idleAt [false, false, false, true] [some ⟨0x20#6, 2⟩, some (word 1)]).wires.req = some ⟨0x20#6, 2⟩ ∧
    decode buildA ⟨0x20#6, 2⟩ = .ok (.bitwiseInt8 2) ∧ (Instr.bitwiseInt8 2).operation.alg = .bitwise ∧
    iters (lowBits ((Instr.bitwiseInt8 2).width buildA) 2) = 1 ∧
    NoResetIn (1 + 2) (idleAt [false, false, false, true] [some ⟨0x20#6, 2⟩, some (word 1)]) ∧ 1 ≤ 1 ∧ 2 ≤ 1 + 1 := by
  refine ⟨by decide, by decide, by decide, by decide, by decide +kernel, ?_, by decide, by decide⟩
  unfold NoResetIn
  decide

/-- A Parallel request and a Bitwise request, each with another request behind it and no reset in its steps. -/
theorem witness_EveryRequestIsAnsweredWithItsReversal :
    ((idleAt [false] [some (word 1), some (word 4)]).phase = .idle ∧
      (idleAt [false] [some (word 1), some (word 4)]).wires.req = some (word 1) ∧
      decode buildA (word 1) = .ok (.parallelUint8 0xEF) ∧ (Instr.parallelUint8 0xEF).operation.alg ≠ .bitwise ∧
      NoResetIn (((Instr.parallelUint8 0xEF).width buildA).bits + 1) (idleAt [false] [some (word 1), some (word 4)])) ∧
    (idleAt [false] [some (word 4), some (word 1)]).phase = .idle ∧
      (idleAt [false] [some (word 4), some (word 1)]).wires.req = some (word 4) ∧
      decode buildB (word 4) = .ok (.bitwiseUint16 0xCDEF) ∧
      NoResetIn (((Instr.bitwiseUint16 0xCDEF).width buildB).bits + 1)
        (idleAt [false] [some (word 4), some (word 1)]) := by
  unfold NoResetIn
  decide

/-- Two idle blocks that differ in their working registers, in WCUR and in the last response. -/
theorem witness_NothingSurvivesAnOperation :
    (idleAt [] [some (word 0)]).phase = .idle ∧
    { idleAt [] [some (word 0)] with regR := 5, regVP := 7, regS := 1, wcur := .w32, rsp := some 3 }.phase = .idle ∧
    (idleAt [] [some (word 0)]).rstIn =
      { idleAt [] [some (word 0)] with regR := 5, regVP := 7, regS := 1, wcur := .w32, rsp := some 3 }.rstIn ∧
    (idleAt [] [some (word 0)]).reqIn =
      { idleAt [] [some (word 0)] with regR := 5, regVP := 7, regS := 1, wcur := .w32, rsp := some 3 }.reqIn ∧ 1 ≤ 1 := by
  decide

theorem witness_SignednessNeverChangesTheResponse :
    (idleAt [] []).phase = .idle ∧ (idleAt [] []).wires.rst = false := by decide

theorem witness_PointerRequestIsTheFixedWidthRequest :
    (idleAt [] []).phase = .idle ∧ (idleAt [] []).wires.rst = false := by decide

/-- Two busy blocks that differ above the width of the operation in flight and in the free-value counter, and two idle
blocks that differ in their registers. -/
theorem sameView_busy :
    SameView (busyAt 0x06 0x03 7 [] []) { busyAt 0xFF06 0x103 7 [] [] with fresh := 9 } :=
  ⟨rfl, rfl, rfl, rfl, fun _ => by decide⟩

theorem sameView_idle (l : List (Option Request)) :
    SameView (idleAt [] l) { idleAt [] l with regR := 5, regVP := 7, regS := 1, wcur := .w32 } :=
  ⟨rfl, rfl, rfl, rfl, fun h => nomatch h⟩

theorem witness_StepKeepsTheView :
    ∃ s t u v : State, s ≠ t ∧ SameView s t ∧ u ≠ v ∧ SameView u v :=
  ⟨_, _, _, _, by decide, sameView_busy, by decide, sameView_idle []⟩

theorem witness_LeavingOutWidth128ChangesNothingElse :
    ∃ s t : State, s ≠ t ∧ SameView s t ∧ some (word 0x0E#6) ∈ s.reqIn ∧
      ∀ q, some q ∈ s.reqIn → q.op.extractLsb' 2 3 ≠ 0b100#3 := by
  refine ⟨_, _, by decide, sameView_idle [some (word 0x0E#6)], by decide, ?_⟩
  intro q hq
  rw [Option.some.inj (List.mem_singleton.mp hq)]
  decide

end Sys2Proof.Tests
end

section
/-! The only refusal of the block is decode's, of what stands on the ports of an idle block (R12, R33, R68). -/

namespace Sys2Proof

/-- The decoder refuses a request exactly when it refuses its selector: no operand is ever refused (R65, R74). -/
theorem decode_eq_error_iff {c : Config} {q : Request} {why : Reserved} :
    decode c q = .error why ↔ decodeOp c q.op = .error why := by
  cases h : decodeOp c q.op <;> simp [decode, h]

end Sys2Proof

namespace Sys2Proof.Machine

/-- An idle block presented a request that decodes runs the decoded instruction. -/
theorem stepOf_idle_of_ok {c : Config} {s : State} {q : Request} {i : Instr} (hw : s.wires = ⟨false, some q⟩)
    (hp : s.phase = .idle) (hd : decode c q = .ok i) : stepOf c s = execOf c i s.passPorts := by
  rw [stepOf_idle hw hp, hd]

/-- An idle block refuses a request that does not decode (`refuse` of R33). -/
theorem stepOf_idle_of_error {c : Config} {s : State} {q : Request} {why : Reserved} (hw : s.wires = ⟨false, some q⟩)
    (hp : s.phase = .idle) (hd : decode c q = .error why) : stepOf c s = .refused (.reservedSelector why) := by
  rw [stepOf_idle hw hp, hd]

/-- A step has a next state in every build, or it is `refuse` of R33: PHASE is IDLE and the selector that stands on the
ports, `rst` at 0, is reserved. The counterpart of `stepOf_cases`, which tells the next states apart. -/
theorem stepOf_next_or_refuse (c : Config) (s : State) :
    (∃ t, stepOf c s = .next t) ∨
    (s.phase = .idle ∧ ∃ q why, s.wires = ⟨false, some q⟩ ∧ decodeOp c q.op = .error why ∧
      stepOf c s = .refused (.reservedSelector why)) := by
  rcases hw : s.wires with ⟨rst, req⟩
  cases rst with
  | true => exact .inl ⟨_, stepOf_rst (by rw [hw])⟩
  | false =>
    cases hp : s.phase with
    | busy => exact .inl ⟨_, stepOf_busy (by rw [hw]) hp⟩
    | idle =>
      cases req with
      | none => exact .inl ⟨_, stepOf_none hw hp⟩
      | some q =>
        cases hd : decode c q with
        | ok i =>
          obtain ⟨t, ht⟩ := execOf_next c i s.passPorts
          exact .inl ⟨t, (stepOf_idle_of_ok hw hp hd).trans ht⟩
        | error why => exact .inr ⟨rfl, q, why, rfl, decode_eq_error_iff.mp hd, stepOf_idle_of_error hw hp hd⟩

/-- Settles O41: a step that refuses has no next state, so it is `refuse` of R33, and it refuses for the decoder's
reason. -/
theorem onlyReservedRequestsAreRefused : Obligations.OnlyReservedRequestsAreRefused := by
  refine ⟨fun _ f => (nomatch f), fun s r h => ?_, fun i s => ?_⟩
  · rw [step_eq_stepOf] at h
    obtain ⟨t, ht⟩ | ⟨hp, q, why, hw, hd, hr⟩ := stepOf_next_or_refuse Config.build s
    · exact nomatch ht.symm.trans h
    · exact ⟨hp, q, why, hw, hd, Host.Outcome.refused.inj (h.symm.trans hr)⟩
  · rw [exec_eq_execOf]
    exact execOf_next Config.build i s

end Sys2Proof.Machine
end

section
/-! The reversal and the byte-swap, bit by bit and byte by byte (spec 40_contract.md R80, R93, R94). -/

namespace Sys2Proof.Machine

variable {n : Nat}

/-- Bit j of byte k, where it is written as an element. -/
@[simp] theorem getElem_byteOf (v : BitVec n) (k : Nat) {j : Nat} (hj : j < 8) :
    (byteOf v k)[j] = v.getLsbD (8 * k + j) := by
  rw [← BitVec.getLsbD_eq_getElem, getLsbD_byteOf, decide_eq_true hj, Bool.true_and]

/-- The reversal is its own inverse (R83). -/
theorem rev_rev (v : BitVec n) : rev (rev v) = v := by
  apply BitVec.eq_of_getLsbD_eq
  intro i hi
  rw [getLsbD_rev, getLsbD_rev, show n - 1 - (n - 1 - i) = i by omega]
  simp [hi, show n - 1 - i < n by omega]

/-- Byte k of the byte-swap is byte n-1-k of the value. -/
theorem byteOf_bswap (v : BitVec (8 * n)) {k : Nat} (hk : k < n) : byteOf (bswap n v) k = byteOf v (n - 1 - k) :=
  byteOf_ofBytes _ hk

/-- The byte-swap is its own inverse. -/
theorem bswap_bswap (v : BitVec (8 * n)) : bswap n (bswap n v) = v := by
  apply eq_of_byteOf_eq
  intro k hk
  rw [byteOf_bswap _ hk, byteOf_bswap _ (by omega), show n - 1 - (n - 1 - k) = k by omega]

/-- Bit j of byte k goes to bit j of byte n-1-k. -/
theorem getLsbD_bswap_mirror (v : BitVec (8 * n)) {k j : Nat} (hk : k < n) (hj : j < 8) :
    (bswap n v).getLsbD (8 * (n - 1 - k) + j) = v.getLsbD (8 * k + j) := by
  have hb := congrArg (BitVec.getLsbD · j) (byteOf_bswap v (show n - 1 - k < n by omega))
  simpa [getLsbD_byteOf, hj, show n - 1 - (n - 1 - k) = k by omega] using hb

/-- One byte has nothing to swap with. -/
theorem bswap_one (v : BitVec (8 * 1)) : bswap 1 v = v := by
  apply eq_of_byteOf_eq
  intro k hk
  rw [byteOf_bswap v hk, show 1 - 1 - k = k by omega]

/-- Byte k of the reversal is the reversal of byte n-1-k (R94). -/
theorem byteOf_rev (v : BitVec (8 * n)) {k : Nat} (hk : k < n) : byteOf (rev v) k = rev (byteOf v (n - 1 - k)) := by
  apply BitVec.eq_of_getLsbD_eq
  intro j hj
  rw [getLsbD_byteOf, getLsbD_rev, getLsbD_rev, getLsbD_byteOf,
    show 8 * n - 1 - (8 * k + j) = 8 * (n - 1 - k) + (8 - 1 - j) by omega]
  simp [hj, show 8 * k + j < 8 * n by omega, show 8 - 1 - j < 8 by omega]

/-- Settles O7: the byte-swap mirrors the bytes, and mirroring twice, or one byte, changes nothing. -/
theorem byteSwapMovesWholeBytes : Obligations.ByteSwapMovesWholeBytes :=
  ⟨fun _ v => ⟨bswap_bswap v, fun _ _ hk hj => getLsbD_bswap_mirror v hk hj⟩, bswap_one⟩

end Sys2Proof.Machine
end

section
/-! Lookup and Parallel are the reversal: each reverses the bits inside every byte and mirrors the bytes (R120, R134,
R140). -/

namespace Sys2Proof.Machine

variable {n : Nat}

/-- The listing of the ROM holds the reversal of every index (R42). -/
theorem romRead_eq_rev (i : Byte) : romRead i = rev i := by
  revert i
  decide +kernel

/-- `lookup_W` is `rev_W`: the entry read for a byte is its reversal. -/
theorem lookup_eq_rev (v : BitVec (8 * n)) : lookup n v = rev v := by
  apply eq_of_byteOf_eq
  intro k hk
  rw [lookup_eq_ofBytes, byteOf_ofBytes _ hk, byteOf_rev v hk, romRead_eq_rev]

/-- Bit i of a pass: the bit s above where the mask has bit i, and the bit s below where the mask has that one. -/
theorem getLsbD_swapPass (s : Nat) (m x : BitVec n) {i : Nat} (hi : i < n) :
    (swapPass s m x).getLsbD i =
      ((x.getLsbD (i + s) && m.getLsbD i) || (decide (s ≤ i) && (x.getLsbD (i - s) && m.getLsbD (i - s)))) := by
  rw [swapPass, BitVec.getLsbD_or, BitVec.getLsbD_and, BitVec.getLsbD_ushiftRight, BitVec.getLsbD_shiftLeft,
    BitVec.getLsbD_and, Nat.add_comm s i]
  simp only [hi, decide_true, Bool.true_and, ← decide_not, Nat.not_lt]

/-- Bit j of byte k of a mask that repeats one byte. -/
theorem getLsbD_replicate_byte (m : Byte) {k j : Nat} (hk : k < n) (hj : j < 8) :
    (BitVec.replicate n m).getLsbD (8 * k + j) = m.getLsbD j := by
  have hmod : (8 * k + j) % 8 = j := by omega
  rw [BitVec.getLsbD_replicate, hmod, decide_eq_true (by omega), Bool.true_and]

/-- A pass under a mask that repeats one byte works inside each byte, when the byte's mask keeps no bit that the shift
would move out of the byte. -/
theorem byteOf_swapPass {s : Nat} {m : Byte} (hm : ∀ i, i < 8 → m.getLsbD i = true → i + s < 8) (x : BitVec (8 * n))
    {k : Nat} (hk : k < n) : byteOf (swapPass s (BitVec.replicate n m) x) k = swapPass s m (byteOf x k) := by
  apply BitVec.eq_of_getLsbD_eq
  intro j hj
  have fromAbove : (x.getLsbD (8 * k + j + s) && m.getLsbD j) = ((byteOf x k).getLsbD (j + s) && m.getLsbD j) := by
    cases hb : m.getLsbD j
    · simp
    · simp [show j + s < 8 from hm j hj hb, Nat.add_assoc]
  have fromBelow : (decide (s ≤ 8 * k + j) && (x.getLsbD (8 * k + j - s) &&
      (BitVec.replicate n m).getLsbD (8 * k + j - s))) =
      (decide (s ≤ j) && ((byteOf x k).getLsbD (j - s) && m.getLsbD (j - s))) := by
    by_cases hs : s ≤ j
    · rw [show 8 * k + j - s = 8 * k + (j - s) by omega, getLsbD_replicate_byte m hk (by omega)]
      simp [hs, show s ≤ 8 * k + j by omega, show j - s < 8 by omega]
    · cases hb : m.getLsbD ((8 * k + j - s) % 8)
      · simp [hs, BitVec.getLsbD_replicate, hb]
      · have := hm _ (Nat.mod_lt _ (by decide)) hb
        simp [hs, show ¬ s ≤ 8 * k + j by omega]
  rw [getLsbD_byteOf, getLsbD_swapPass _ _ _ (by omega), getLsbD_swapPass _ _ _ hj, fromBelow,
    getLsbD_replicate_byte m hk hj, fromAbove, decide_eq_true hj, Bool.true_and]

/-- The three passes on one byte reverse it. -/
theorem swapPasses_byte (b : Byte) : swapPass 4 0x0F#8 (swapPass 2 0x33#8 (swapPass 1 0x55#8 b)) = rev b := by
  revert b
  decide +kernel

/-- The three passes reverse the bits inside every byte (R134). -/
theorem byteOf_swapPasses (v : BitVec (8 * n)) {k : Nat} (hk : k < n) :
    byteOf (swapPasses n v) k = rev (byteOf v k) := by
  rw [swapPasses, mask4, byteOf_swapPass (by decide) _ hk, mask2, byteOf_swapPass (by decide) _ hk, mask1,
    byteOf_swapPass (by decide) _ hk, swapPasses_byte]

/-- `parallel_W` is `rev_W`. -/
theorem parallel_eq_rev (v : BitVec (8 * n)) : parallel n v = rev v := by
  apply eq_of_byteOf_eq
  intro k hk
  rw [parallel, byteOf_bswap _ hk, byteOf_swapPasses v (by omega), byteOf_rev v hk]

end Sys2Proof.Machine
end

section
/-! Bitwise is the reversal: the invariant of R101 holds at the start, every pass keeps it, and at the exit it makes the
result `rev_W`. -/

namespace Sys2Proof.Machine

variable {n : Nat}

/-- R101 with no pass made. -/
theorem afterIterations_bwInit (w : Width) (v : BitVec w.bits) : AfterIterations v 0 (bwInit v) :=
  ⟨rfl, bwInit_s_toNat w v, fun i _ => by simp⟩

/-- Every pass keeps R101, as long as the countdown has not reached 0. -/
theorem AfterIterations.pass {v : BitVec n} {j : Nat} {x : BwRegs n} (h : AfterIterations v j x) (hj : j + 1 < n) :
    AfterIterations v (j + 1) (bwStep x) := by
  obtain ⟨hvp, hs, hr⟩ := h
  refine ⟨?_, ?_, fun i hi => ?_⟩
  · rw [bwStep_vp, hvp, ← BitVec.shiftRight_add]
  · rw [bwStep_s]
    bv_omega
  · rw [getLsbD_bwStep_r x i hi]
    cases i with
    | zero => simp [hvp]
    | succ i =>
      rw [hr (i + 1 - 1) (by omega)]
      simp [Nat.add_sub_add_right]

/-- At the exit of the loop, where VP is 0, the remaining placeholder shifts make the reversal. -/
theorem AfterIterations.bwResult_eq_rev {v : BitVec n} {j : Nat} {x : BwRegs n} (h : AfterIterations v j x)
    (hj : j < n) (hvp : x.vp = 0) : bwResult x = rev v := by
  obtain ⟨hv, hs, hr⟩ := h
  have above : ∀ k, j < k → v.getLsbD k = false := fun k hk => by
    have hb := congrArg (BitVec.getLsbD · (k - (j + 1))) (hv.symm.trans hvp)
    simpa [show j + 1 + (k - (j + 1)) = k by omega] using hb
  apply BitVec.eq_of_getLsbD_eq
  intro i hi
  rw [bwResult, BitVec.getLsbD_shiftLeft, hs, getLsbD_rev]
  by_cases hlow : i < n - 1 - j
  · simp [hi, hlow, above (n - 1 - i) (by omega)]
  · rw [hr (i - (n - 1 - j)) (by omega)]
    by_cases hlast : i = n - 1
    · subst hlast
      simp [hlow, show n - 1 - (n - 1 - j) = j by omega]
    · simp [hi, hlow, show i - (n - 1 - j) < j by omega, show j - (i - (n - 1 - j)) = n - 1 - i by omega]

/-- The loop stops within its fuel, with VP = 0 and before the countdown passes 0 (R103): while VP is not 0 the operand
still has a bit above the passes made. -/
theorem bwLoop_exit {v : BitVec n} : ∀ (fuel j : Nat) (x : BwRegs n), AfterIterations v j x → j < n → n ≤ j + fuel →
    ∃ m, m < n ∧ AfterIterations v m (bwLoop fuel x) ∧ (bwLoop fuel x).vp = 0
  | 0, j, _, _, hj, hf => absurd hf (by omega)
  | fuel + 1, j, x, h, hj, hf => by
    by_cases hvp : x.vp = 0
    · rw [bwLoop, if_pos hvp]
      exact ⟨j, hj, h, hvp⟩
    · have hnext : j + 1 < n := by
        refine Nat.lt_of_not_le fun hn => hvp ?_
        obtain ⟨hv, -, -⟩ := h
        rw [hv]
        exact BitVec.ushiftRight_eq_zero hn
      rw [bwLoop, if_neg hvp]
      exact bwLoop_exit fuel (j + 1) (bwStep x) (h.pass hnext) hnext (by omega)

/-- `bitwise_W` is `rev_W`. -/
theorem bitwise_eq_rev (w : Width) (v : BitVec w.bits) : bitwise v = rev v := by
  have hw : 0 < w.bits := by cases w <;> decide
  obtain ⟨m, hm, h, hvp⟩ := bwLoop_exit w.bits 0 (bwInit v) (afterIterations_bwInit w v) hw (by omega)
  exact h.bwResult_eq_rev hm hvp

/-- Settles O3: each algorithm is the reversal, hence they agree. -/
theorem algorithmsAgreeAndReverse : Obligations.AlgorithmsAgreeAndReverse := fun w v =>
  ⟨(bitwise_eq_rev w v).trans (parallel_eq_rev v).symm, (parallel_eq_rev v).trans (lookup_eq_rev v).symm,
    bitwise_eq_rev w v, parallel_eq_rev v, lookup_eq_rev v⟩

/-- Settles O2: each algorithm is the reversal, and the reversal is its own inverse. -/
theorem everyAlgorithmIsAnInvolution : Obligations.EveryAlgorithmIsAnInvolution := fun w =>
  ⟨fun v => by simp only [bitwise_eq_rev, parallel_eq_rev, lookup_eq_rev, rev_rev, and_self],
    Function.Involutive.bijective rev_rev⟩

end Sys2Proof.Machine
end

section
/-! What a request does depends on the algorithm, the effective width and the low W bits of the data only (R75, R86,
R87). -/

namespace Sys2Proof

/-- The codes of the three fields are read back (R62 to R64). -/
@[simp] theorem algOfCode_code (a : Alg) : algOfCode a.code = some a := by cases a <;> rfl

@[simp] theorem widthNameOfCode_code (n : WidthName) : widthNameOfCode n.code = some n := by
  rcases n with (_ | _) | _ <;> rfl

@[simp] theorem signednessOfBit_code (g : Signedness) : signednessOfBit (decide (g = .signed)) = g := by
  cases g <;> rfl

/-- The selector of an operation decodes to it, where the build has its width (R67, R69). -/
theorem decodeOp_selector {c : Config} {o : Operation} (h : ¬ (o.width = .fixed .w128 ∧ c.en128 = false)) :
    decodeOp c o.selector = .ok o := by
  obtain ⟨halg, hwsel, hsgn, -⟩ := selector_fields o
  simp [decodeOp, halg, hwsel, hsgn, h]

/-- No pointer width is 128 (R8). -/
theorem PtrWidth.width_ne_w128 (p : PtrWidth) : p.width ≠ .w128 := by cases p <;> decide

/-- Decoding keeps the operation that the selector named. -/
@[simp] theorem operation_ofOperation (c : Config) (o : Operation) (d : Bus) :
    (Instr.ofOperation c o d).operation = o := by
  rcases o with ⟨_ | _ | _, (_ | _ | _ | _ | _) | _, _ | _⟩ <;> rfl

/-- A pointer-width operand stands on the bus as the low PTR_W bits of the data (R65). -/
theorem onBus_ptrOperand (c : Config) (d : Bus) :
    Machine.onBus (ptrOperand c d) = Machine.onBus (Machine.lowBits c.ptrW.width d) := by
  have h64 : c.ptrW.width.bits ≤ 64 := by cases c.ptrW <;> decide
  apply BitVec.eq_of_getLsbD_eq
  intro i hi
  by_cases h : i < c.ptrW.width.bits
  · simp [Machine.onBus, Machine.lowBits, ptrOperand, show i < 64 by omega]
  · simp [Machine.onBus, Machine.lowBits, ptrOperand, h]

/-- The operand of a decoded instruction is the low W bits of the data, W being the effective width (R65). -/
theorem operandBus_ofOperation (c : Config) (o : Operation) (d : Bus) :
    (Instr.ofOperation c o d).operandBus = Machine.onBus (Machine.lowBits (o.width.width c) d) := by
  rcases o with ⟨a, w | _, g⟩
  · have h128 : d.setWidth 128 = (d.setWidth 128).setWidth 128 := (BitVec.setWidth_eq _).symm
    cases w
    case w128 => cases a <;> cases g <;> exact h128
    all_goals cases a <;> cases g <;> rfl
  · cases a <;> cases g <;> exact onBus_ptrOperand c d

/-- A request whose selector names an operation decodes to the instruction of that operation. -/
theorem decode_eq_ok {c : Config} {q : Request} {o : Operation} (h : decodeOp c q.op = .ok o) :
    decode c q = .ok (Instr.ofOperation c o q.data) := by
  rw [decode, h]

/-- What of an operation its run depends on in a build: the algorithm and the effective width (R75, R86). -/
def Operation.effective (c : Config) (o : Operation) : Alg × Width := (o.alg, o.width.width c)

/-- Flipping SGN keeps the fields ALG and WSEL (R61). -/
theorem algField_flipSgn (op : BitVec 6) : Request.algField (op ^^^ 0b100000#6) = Request.algField op := by
  rw [Request.algField, BitVec.extractLsb'_xor]
  exact BitVec.xor_zero

theorem wselField_flipSgn (op : BitVec 6) : Request.wselField (op ^^^ 0b100000#6) = Request.wselField op := by
  rw [Request.wselField, BitVec.extractLsb'_xor]
  exact BitVec.xor_zero

/-- Flipping SGN keeps the algorithm and the effective width of a selector, and the reason for refusing it. -/
theorem decodeOp_flipSgn (c : Config) (op : BitVec 6) :
    (decodeOp c (op ^^^ 0b100000#6)).map (Operation.effective c) = (decodeOp c op).map (Operation.effective c) := by
  unfold decodeOp
  rw [algField_flipSgn, wselField_flipSgn]
  cases algOfCode (Request.algField op) with
  | none => rfl
  | some a =>
    cases widthNameOfCode (Request.wselField op) with
    | none => rfl
    | some n =>
      by_cases h : n = .fixed .w128 ∧ c.en128 = false
      · simp only [if_pos h]
      · simp only [if_neg h]
        rfl

end Sys2Proof

namespace Sys2Proof.Machine

/-- The step in which a request is offered that names this algorithm and this effective width, with this data. -/
def State.offerEffective (c : Config) (s : State) (e : Alg × Width) (d : Bus) : Host.Outcome State Fault Refusal :=
  match e with
  | (.bitwise, w) => s.offerBitwise c w (lowBits w d)
  | (.parallel, w) => s.offerResult c (parallel w.bytes (lowBits w d))
  | (.lookup, w) => s.offerResult c (lookup w.bytes (lowBits w d))

/-- The data bits at and above the effective width are not read (R65). -/
theorem State.offerEffective_lowBits (c : Config) (s : State) (e : Alg × Width) (d : Bus) :
    s.offerEffective c e (onBus (lowBits e.2 d)) = s.offerEffective c e d := by
  rcases e with ⟨_ | _ | _, w⟩ <;> simp [State.offerEffective]

/-- The step of an instruction is given by its algorithm, its effective width and its operand. -/
theorem execOf_eq_offerEffective (c : Config) (i : Instr) (s : State) :
    execOf c i s = s.offerEffective c (i.operation.effective c) i.operandBus := by
  change _ = s.offerEffective c (i.operation.alg, i.width c) i.operandBus
  obtain ⟨ha, he⟩ | ⟨ha, he⟩ | ⟨ha, he⟩ := execOf_forms c i s
  all_goals
    rw [ha]
    exact he

/-- The step of a decoded instruction, in terms of the operation that the selector named and the data. -/
theorem execOf_ofOperation (c : Config) (o : Operation) (d : Bus) (s : State) :
    execOf c (Instr.ofOperation c o d) s = s.offerEffective c (o.effective c) d := by
  rw [execOf_eq_offerEffective, operation_ofOperation, operandBus_ofOperation]
  exact s.offerEffective_lowBits c (o.effective c) d

/-- The input ports after the step that takes a presented request hold nothing of it. -/
theorem State.passPorts_present {s : State} (q : Request) (rest : List (Option Request)) (hp : s.phase = .idle)
    (hr : s.wires.rst = false) :
    { s with reqIn := some q :: rest }.passPorts = { s with rstIn := s.rstIn.tail, reqIn := rest } := by
  have hreq := State.passPorts_of_idle (s := { s with reqIn := some q :: rest }) hp hr
  exact congrArg (fun l => { s with rstIn := s.rstIn.tail, reqIn := l }) hreq

/-- `rst` at 0 and a request at the head of the list: that is what stands on the ports. -/
theorem State.wires_present {s : State} (q : Request) (rest : List (Option Request)) (hr : s.wires.rst = false) :
    { s with reqIn := some q :: rest }.wires = ⟨false, some q⟩ :=
  congrArg (Stimulus.mk · (some q)) hr

/-- An idle block takes a presented request whose selector names an operation of the build. -/
theorem stepOf_present_of_ok {c : Config} {s : State} {q : Request} {o : Operation} (rest : List (Option Request))
    (hp : s.phase = .idle) (hr : s.wires.rst = false) (ho : decodeOp c q.op = .ok o) :
    stepOf c { s with reqIn := some q :: rest } =
      State.offerEffective c { s with rstIn := s.rstIn.tail, reqIn := rest } (o.effective c) q.data := by
  rw [stepOf_idle_of_ok (State.wires_present q rest hr) hp (decode_eq_ok ho), State.passPorts_present q rest hp hr,
    execOf_ofOperation]

/-- An idle block refuses a presented request whose selector is reserved (R68). -/
theorem stepOf_present_of_error {c : Config} {s : State} {q : Request} {why : Reserved} (rest : List (Option Request))
    (hp : s.phase = .idle) (hr : s.wires.rst = false) (hd : decodeOp c q.op = .error why) :
    stepOf c { s with reqIn := some q :: rest } = .refused (.reservedSelector why) :=
  stepOf_idle_of_error (State.wires_present q rest hr) hp (decode_eq_error_iff.mpr hd)

/-- Two requests with the same data, whose selectors name the same algorithm and effective width or are refused for the
same reason, are the same to an idle block. -/
theorem stepOf_present_congr {c : Config} {s : State} {op op' : BitVec 6} (d : Bus) (rest : List (Option Request))
    (hp : s.phase = .idle) (hr : s.wires.rst = false)
    (h : (decodeOp c op).map (Operation.effective c) = (decodeOp c op').map (Operation.effective c)) :
    stepOf c { s with reqIn := some ⟨op, d⟩ :: rest } = stepOf c { s with reqIn := some ⟨op', d⟩ :: rest } := by
  cases ho : decodeOp c op <;> cases ho' : decodeOp c op' <;> rw [ho, ho'] at h
  case error.error why why' =>
    rw [stepOf_present_of_error rest hp hr ho, stepOf_present_of_error rest hp hr ho', Except.error.inj h]
  case error.ok => cases h
  case ok.error => cases h
  case ok.ok o o' =>
    rw [stepOf_present_of_ok rest hp hr ho, stepOf_present_of_ok rest hp hr ho', Except.ok.inj h]

/-- Runs that begin with the same step are the same run. -/
theorem run_succ_congr {c : Config} {s t : State} (h : stepOf c s = stepOf c t) (k : Nat) :
    (machineOf c).run (k + 1) s = (machineOf c).run (k + 1) t := by
  rw [run_succ, run_succ, h]

/-- Settles O56: SGN is no part of the algorithm or of the effective width. -/
theorem signednessNeverChangesTheResponse : Obligations.SignednessNeverChangesTheResponse :=
  fun c _ q rest k hp hr =>
    run_succ_congr (stepOf_present_congr q.data rest hp hr (decodeOp_flipSgn c q.op).symm) k

/-- Settles O57: both selectors decode, to operations of the same algorithm and the same effective width. -/
theorem pointerRequestIsTheFixedWidthRequest : Obligations.PointerRequestIsTheFixedWidthRequest := by
  intro c s a g d rest k hp hr
  have hptr := decodeOp_selector (c := c) (o := ⟨a, .pointer, g⟩) (by simp)
  have hfixed := decodeOp_selector (c := c) (o := ⟨a, .fixed c.ptrW.width, g⟩)
    (by simp [PtrWidth.width_ne_w128])
  refine run_succ_congr (stepOf_present_congr d rest hp hr ?_) k
  exact (congrArg _ hptr).trans (congrArg (Except.map (Operation.effective c)) hfixed).symm

end Sys2Proof.Machine
end

section
/-! One pass of Parallel, position by position: it takes the bit at position i XOR k, that is the bit k places above in
a low half and k places below in a high half (spec 42_parallel.md R121, R122). With k = 2^j, position i stands in a low
half exactly when bit j of i is 0. -/

namespace Sys2Proof.Machine

variable {n j : Nat}

/-- Flipping a 0 bit of a position number adds its weight. -/
theorem xor_two_pow_of_testBit_false {i : Nat} (h : i.testBit j = false) : i ^^^ 2 ^ j = i + 2 ^ j := by
  induction j generalizing i with
  | zero =>
    rw [Nat.testBit_zero, decide_eq_false_iff_not] at h
    exact Nat.xor_one_of_even (Nat.even_iff.mpr (by omega))
  | succ j ih =>
    rw [Nat.testBit_add_one] at h
    have hdiv : (i ^^^ 2 ^ (j + 1)) / 2 = i / 2 + 2 ^ j := by
      rw [Nat.xor_div_two, show 2 ^ (j + 1) / 2 = 2 ^ j by omega, ih h]
    have hmod : (i ^^^ 2 ^ (j + 1)) % 2 = (i + 2 ^ (j + 1)) % 2 := Nat.xor_mod_two_eq
    omega

/-- The position one weight below has the other bit of that weight. -/
theorem testBit_sub_two_pow {i : Nat} (h : 2 ^ j ≤ i) : (i - 2 ^ j).testBit j = !i.testBit j := by
  have hb := Nat.testBit_two_pow_add_eq (i - 2 ^ j) j
  rw [Nat.add_sub_cancel' h] at hb
  rw [hb, Bool.not_not]

/-- Flipping a 1 bit of a position number takes its weight off. -/
theorem xor_two_pow_of_testBit_true {i : Nat} (h : i.testBit j = true) : i ^^^ 2 ^ j = i - 2 ^ j := by
  have hle : 2 ^ j ≤ i := Nat.ge_two_pow_of_testBit h
  have hflip : (i - 2 ^ j) ^^^ 2 ^ j = i := by
    rw [xor_two_pow_of_testBit_false (by rw [testBit_sub_two_pow hle, h, Bool.not_true]), Nat.sub_add_cancel hle]
  calc
    i ^^^ 2 ^ j = ((i - 2 ^ j) ^^^ 2 ^ j) ^^^ 2 ^ j := by rw [hflip]
    _ = i - 2 ^ j := Nat.xor_xor_cancel_right _ _

/-- A position is in the low half of its group of 2 * 2^j exactly when its bit j is 0. -/
theorem mod_lt_two_pow_iff_testBit {i : Nat} : i % (2 * 2 ^ j) < 2 ^ j ↔ i.testBit j = false := by
  have hlt : i % 2 ^ j < 2 ^ j := Nat.mod_lt _ (Nat.two_pow_pos j)
  rw [Nat.testBit_eq_decide_div_mod_eq, decide_eq_false_iff_not, Nat.mul_comm 2, Nat.mod_mul]
  obtain h | h := Nat.mod_two_eq_zero_or_one (i / 2 ^ j) <;> rw [h] <;> omega

/-- A mask that keeps the low half of every aligned group of 2 * 2^j bits (R121). -/
def KeepsLowHalves (j : Nat) (m : BitVec n) : Prop := ∀ i, i < n → m.getLsbD i = !i.testBit j

/-- Repeating a byte that keeps the low halves makes a mask that keeps them in every byte. -/
theorem KeepsLowHalves.replicate {b : Byte} (hb : KeepsLowHalves j b) (hj : j < 3) :
    KeepsLowHalves j (BitVec.replicate n b) := by
  intro i hi
  have hbit : (i % 8).testBit j = i.testBit j := by
    rw [show (8 : Nat) = 2 ^ 3 from rfl, Nat.testBit_mod_two_pow, decide_eq_true hj, Bool.true_and]
  rw [← hbit, ← hb (i % 8) (by omega)]
  have hbyte := getLsbD_replicate_byte b (show i / 8 < n by omega) (show i % 8 < 8 by omega)
  rwa [Nat.div_add_mod] at hbyte

/-- 0x55 repeated keeps the low bit of every pair (R121). -/
theorem keepsLowHalves_mask1 : KeepsLowHalves 0 (mask1 n) :=
  KeepsLowHalves.replicate (by unfold KeepsLowHalves; decide) (by decide)

/-- 0x33 repeated keeps the low pair of every four bits (R121). -/
theorem keepsLowHalves_mask2 : KeepsLowHalves 1 (mask2 n) :=
  KeepsLowHalves.replicate (by unfold KeepsLowHalves; decide) (by decide)

/-- 0x0F repeated keeps the low half of every byte (R121). -/
theorem keepsLowHalves_mask4 : KeepsLowHalves 2 (mask4 n) :=
  KeepsLowHalves.replicate (by unfold KeepsLowHalves; decide) (by decide)

/-- A pass permutes positions: position i takes the bit at i XOR 2^j (R122). -/
theorem getLsbD_swapPass_xor {m : BitVec n} (hm : KeepsLowHalves j m) (x : BitVec n) {i : Nat} (hi : i < n) :
    (swapPass (2 ^ j) m x).getLsbD i = x.getLsbD (i ^^^ 2 ^ j) := by
  rw [getLsbD_swapPass _ _ _ hi, hm i hi, hm (i - 2 ^ j) (Nat.sub_lt_of_lt hi)]
  cases hb : i.testBit j with
  | false =>
    have hbelow : 2 ^ j ≤ i → (i - 2 ^ j).testBit j = true := fun h => by rw [testBit_sub_two_pow h, hb, Bool.not_false]
    rw [xor_two_pow_of_testBit_false hb]
    by_cases h : 2 ^ j ≤ i <;> simp [h, hbelow]
  | true =>
    have hle : 2 ^ j ≤ i := Nat.ge_two_pow_of_testBit hb
    rw [xor_two_pow_of_testBit_true hb, testBit_sub_two_pow hle, hb]
    simp [hle]

/-- The same in the two cases of R122: a low half takes the bit 2^j above, a high half the bit 2^j below. -/
theorem getLsbD_swapPass_halves {m : BitVec n} (hm : KeepsLowHalves j m) (x : BitVec n) {i : Nat} (hi : i < n) :
    (swapPass (2 ^ j) m x).getLsbD i =
      if i % (2 * 2 ^ j) < 2 ^ j then x.getLsbD (i + 2 ^ j) else x.getLsbD (i - 2 ^ j) := by
  rw [getLsbD_swapPass_xor hm x hi]
  split_ifs with h
  · rw [xor_two_pow_of_testBit_false (mod_lt_two_pow_iff_testBit.mp h)]
  · rw [xor_two_pow_of_testBit_true (by simpa [mod_lt_two_pow_iff_testBit] using h)]

/-- Flipping a bit of a position inside its byte stays inside the value. -/
theorem xor_two_pow_lt {i : Nat} (hj : j < 3) (hi : i < 8 * n) : i ^^^ 2 ^ j < 8 * n := by
  have hbyte : (i ^^^ 2 ^ j) / 2 ^ 3 = i / 2 ^ 3 := by
    rw [Nat.xor_div_two_pow, Nat.div_eq_of_lt (Nat.pow_lt_pow_right (by decide) hj), Nat.xor_zero]
  omega

/-- A pass is its own inverse. -/
theorem swapPass_swapPass {m : BitVec (8 * n)} (hm : KeepsLowHalves j m) (hj : j < 3) (x : BitVec (8 * n)) :
    swapPass (2 ^ j) m (swapPass (2 ^ j) m x) = x := by
  apply BitVec.eq_of_getLsbD_eq
  intro i hi
  rw [getLsbD_swapPass_xor hm _ hi, getLsbD_swapPass_xor hm _ (xor_two_pow_lt hj hi), Nat.xor_xor_cancel_right]

/-- The three passes of the block are those of group sizes 2^0, 2^1 and 2^2, each with a mask that keeps the low
halves. -/
theorem exists_keepsLowHalves {k : Nat} {m : BitVec (8 * n)}
    (h : (k = 1 ∧ m = mask1 n) ∨ (k = 2 ∧ m = mask2 n) ∨ (k = 4 ∧ m = mask4 n)) :
    ∃ j, j < 3 ∧ k = 2 ^ j ∧ KeepsLowHalves j m := by
  obtain ⟨rfl, rfl⟩ | ⟨rfl, rfl⟩ | ⟨rfl, rfl⟩ := h
  · exact ⟨0, by decide, rfl, keepsLowHalves_mask1⟩
  · exact ⟨1, by decide, rfl, keepsLowHalves_mask2⟩
  · exact ⟨2, by decide, rfl, keepsLowHalves_mask4⟩

/-- Settles O9: a pass flips one bit of every position number, from which the exchange of the halves and the involution
follow. -/
theorem passExchangesNeighbouringGroups : Obligations.PassExchangesNeighbouringGroups := by
  intro w k m h x
  obtain ⟨j, hj, rfl, hm⟩ := exists_keepsLowHalves h
  exact ⟨swapPass_swapPass hm hj x, fun i hi => ⟨getLsbD_swapPass_halves hm x hi, getLsbD_swapPass_xor hm x hi⟩⟩

end Sys2Proof.Machine
end

section
/-! The reads of a Lookup operation and where their entries go: byte k of the operand is the index of read k, and the
entry read for it is the mirrored byte of the result (spec 43_lookup.md R140 to R144). No fact about the contents of the
ROM is needed. -/

namespace Sys2Proof.Machine

variable {n : Nat}

/-- One read per byte of the operand. -/
@[simp] theorem length_lookupReads (v : BitVec (8 * n)) : (lookupReads n v).length = n := by
  simp [lookupReads]

/-- The index of read k is byte k of the operand (R142). -/
theorem getElem?_lookupReads (v : BitVec (8 * n)) {k : Nat} (hk : k < n) :
    (lookupReads n v)[k]? = some (byteOf v k) := by
  simp [lookupReads, hk]

/-- Byte k of the result is the entry read for the mirrored byte of the operand. -/
theorem byteOf_lookup (v : BitVec (8 * n)) {k : Nat} (hk : k < n) :
    byteOf (lookup n v) k = romRead (byteOf v (n - 1 - k)) := by
  rw [lookup_eq_ofBytes, byteOf_ofBytes _ hk]

/-- The entry read for byte k of the operand is the mirrored byte of the result (R143). -/
theorem byteOf_lookup_mirror (v : BitVec (8 * n)) {k : Nat} (hk : k < n) :
    byteOf (lookup n v) (n - 1 - k) = romRead (byteOf v k) := by
  rw [byteOf_lookup v (by omega), show n - 1 - (n - 1 - k) = k by omega]

/-- Looking up every byte, then reversing the order of the bytes (R140, R143). -/
theorem lookup_eq_bswap_romRead (v : BitVec (8 * n)) :
    lookup n v = bswap n (ofBytes n fun k => romRead (byteOf v k)) := by
  apply eq_of_byteOf_eq
  intro k hk
  rw [byteOf_lookup v hk, byteOf_bswap _ hk, byteOf_ofBytes _ (by omega)]

/-- Reversing the order of the bytes, then looking up every byte (R143). -/
theorem lookup_eq_romRead_bswap (v : BitVec (8 * n)) :
    lookup n v = ofBytes n fun k => romRead (byteOf (bswap n v) k) := by
  apply eq_of_byteOf_eq
  intro k hk
  rw [byteOf_lookup v hk, byteOf_ofBytes _ hk, byteOf_bswap v hk]

/-- A value of one byte is its byte 0. -/
theorem byteOf_zero (b : Byte) : byteOf b 0 = b := BitVec.extractLsb'_eq_self

/-- At width 8 the operand itself is the one index, and the entry is the result (R144). -/
theorem lookup_one (v : BitVec 8) : lookup 1 v = romRead v :=
  calc
    lookup 1 v = byteOf (lookup 1 v) (1 - 1 - 0) := (byteOf_zero _).symm
    _ = romRead (byteOf v 0) := byteOf_lookup_mirror (n := 1) v Nat.one_pos
    _ = romRead v := by rw [byteOf_zero]

/-- Settles O14: read k is at byte k and its entry is placed at the mirrored byte, so the lookup and the byte-swap
commute. -/
theorem lookupReadsAndPlacesEveryByte : Obligations.LookupReadsAndPlacesEveryByte := by
  refine ⟨fun w v => ⟨length_lookupReads v, fun k hk => ⟨getElem?_lookupReads v hk, fun i hi => ?_⟩⟩,
    fun w v => ⟨lookup_eq_bswap_romRead v, lookup_eq_romRead_bswap v⟩, lookup_one⟩
  have index : byteOf v k = i := Option.some.inj ((getElem?_lookupReads v hk).symm.trans hi)
  rw [← index]
  exact byteOf_lookup_mirror v hk

end Sys2Proof.Machine
end

section
/-! The decoder and the encoder are inverse to each other: the selectors that decode are those of the operations the
build has, and an instruction is its operation and its operand (spec 30_encoding.md R61 to R69, R74). -/

namespace Sys2Proof

open Sys2Proof.Machine

/-- The code of an algorithm is the only value of ALG that names it (R62). -/
theorem algOfCode_eq_some_iff {x : BitVec 2} {a : Alg} : algOfCode x = some a ↔ x = a.code := by
  cases a <;> revert x <;> decide

/-- ALG = 11 is the only value that names no algorithm (R68). -/
theorem algOfCode_eq_none_iff {x : BitVec 2} : algOfCode x = none ↔ x = 0b11#2 := by
  revert x
  decide

/-- The code of a width name is the only value of WSEL that names it (R63). -/
theorem widthNameOfCode_eq_some_iff {x : BitVec 3} {n : WidthName} : widthNameOfCode x = some n ↔ x = n.code := by
  rcases n with (_ | _) | _ <;> revert x <;> decide

/-- WSEL = 110 and 111 are the values that name no width (R68). -/
theorem widthNameOfCode_eq_none_iff {x : BitVec 3} : widthNameOfCode x = none ↔ x = 0b110#3 ∨ x = 0b111#3 := by
  revert x
  decide

/-- A selector is put together from what its three fields name (R61). -/
theorem eq_selector_of_fields {op : BitVec 6} {a : Alg} {n : WidthName} (ha : Request.algField op = a.code)
    (hn : Request.wselField op = n.code) :
    op = (Operation.mk a n (signednessOfBit (Request.sgnField op))).selector := by
  have hfields : op = (signednessOfBit (Request.sgnField op)).code ++ Request.wselField op ++ Request.algField op := by
    clear ha hn
    revert op
    decide
  rw [ha, hn] at hfields
  exact hfields

/-- A build has an operation, unless the operation is of width 128 and EN128 is false (R7, R69). -/
def Operation.InBuild (c : Config) (o : Operation) : Prop := ¬ (o.width = .fixed .w128 ∧ c.en128 = false)

/-- The selectors that decode are the selectors of the operations of the build (R67, R69). -/
theorem decodeOp_eq_ok_iff {c : Config} {op : BitVec 6} {o : Operation} :
    decodeOp c op = .ok o ↔ op = o.selector ∧ o.InBuild c := by
  refine ⟨fun h => ?_, fun ⟨hop, hb⟩ => hop ▸ decodeOp_selector hb⟩
  unfold decodeOp at h
  split at h
  · cases h
  · rename_i a ha
    split at h
    · cases h
    · rename_i n hn
      split at h
      · cases h
      · rename_i hb
        cases h
        exact ⟨eq_selector_of_fields (algOfCode_eq_some_iff.mp ha) (widthNameOfCode_eq_some_iff.mp hn), hb⟩

/-- The build has an operation exactly when it has the operation's effective width. -/
theorem Operation.inBuild_iff {c : Config} {o : Operation} : o.InBuild c ↔ c.hasWidth (o.width.width c) = true := by
  rcases o with ⟨a, (_ | _) | _, g⟩ <;> simp [Operation.InBuild, WidthName.width]

/-- What a request that decodes is decoded to: the instruction of an operation of the build, at the low bits of the
data. -/
theorem decode_eq_ok_iff {c : Config} {q : Request} {i : Instr} :
    decode c q = .ok i ↔ ∃ o, decodeOp c q.op = .ok o ∧ i = Instr.ofOperation c o q.data := by
  refine ⟨fun h => ?_, fun ⟨o, ho, hi⟩ => hi ▸ decode_eq_ok ho⟩
  cases ho : decodeOp c q.op with
  | error why => exact nomatch h.symm.trans (decode_eq_error_iff.mpr ho)
  | ok o => exact ⟨o, rfl, Except.ok.inj (h.symm.trans (decode_eq_ok ho))⟩

/-- A value stands on the bus without loss. -/
theorem toNat_onBus {n : Nat} (h : n ≤ 128) (v : BitVec n) : (onBus v).toNat = v.toNat :=
  BitVec.toNat_setWidth_of_le h

/-- A width below a bound that a value meets holds the value. -/
theorem onBus_lowBits {w : Width} {d : Bus} (h : d.toNat < 2 ^ w.bits) : onBus (lowBits w d) = d := by
  apply BitVec.eq_of_toNat_eq
  rw [toNat_onBus (by cases w <;> decide), lowBits, BitVec.toNat_setWidth, Nat.mod_eq_of_lt h]

/-- Well-formedness, for all 36 instructions at once: the build has the effective width, and the operand has no bit at
or above it (R69, R192 to R197). -/
theorem Instr.wf_iff {c : Config} {i : Instr} :
    i.wf c = true ↔ c.hasWidth (i.width c) = true ∧ i.operandBus.toNat < 2 ^ (i.width c).bits := by
  have fixed : ∀ {w : Width} {v : BitVec w.bits} {b : Bool}, c.hasWidth w = b →
      (b = true ↔ c.hasWidth w = true ∧ (onBus v).toNat < 2 ^ w.bits) := fun {w v b} hb => by
    simp [hb, onBus_lt v]
  have pointer : ∀ {v : BitVec 64},
      (ptrOperandFits c v = true ↔ c.hasWidth c.ptrW.width = true ∧ (onBus v).toNat < 2 ^ c.ptrW.width.bits) :=
    fun {v} => by simp [ptrOperandFits, toNat_onBus]
  cases i
  case bitwiseUintptr | parallelUintptr | lookupUintptr | bitwiseIntptr | parallelIntptr | lookupIntptr => exact pointer
  case bitwiseUint128 | parallelUint128 | lookupUint128 | bitwiseInt128 | parallelInt128 | lookupInt128 =>
    exact fixed (w := .w128) (hasWidth_w128 c)
  case bitwiseUint64 | parallelUint64 | lookupUint64 | bitwiseInt64 | parallelInt64 | lookupInt64 =>
    exact fixed (w := .w64) rfl
  case bitwiseUint32 | parallelUint32 | lookupUint32 | bitwiseInt32 | parallelInt32 | lookupInt32 =>
    exact fixed (w := .w32) rfl
  case bitwiseUint16 | parallelUint16 | lookupUint16 | bitwiseInt16 | parallelInt16 | lookupInt16 =>
    exact fixed (w := .w16) rfl
  case bitwiseUint8 | parallelUint8 | lookupUint8 | bitwiseInt8 | parallelInt8 | lookupInt8 =>
    exact fixed (w := .w8) rfl

/-- A pointer-width operand of PTR_W bits is read back from the bus it was put on. -/
theorem ptrOperand_onBus {c : Config} {v : BitVec 64} (h : (onBus v).toNat < 2 ^ c.ptrW.width.bits) :
    ptrOperand c (onBus v) = v := by
  rw [toNat_onBus (by decide)] at h
  apply BitVec.eq_of_toNat_eq
  rw [ptrOperand, BitVec.toNat_setWidth, BitVec.toNat_setWidth, toNat_onBus (by decide), Nat.mod_eq_of_lt h,
    Nat.mod_eq_of_lt v.isLt]

/-- An instruction whose operand fits its width is that of its operation and its operand. -/
theorem Instr.ofOperation_operandBus {c : Config} {i : Instr} (h : i.operandBus.toNat < 2 ^ (i.width c).bits) :
    Instr.ofOperation c i.operation i.operandBus = i := by
  cases i
  case bitwiseUintptr => exact congrArg Instr.bitwiseUintptr (ptrOperand_onBus h)
  case parallelUintptr => exact congrArg Instr.parallelUintptr (ptrOperand_onBus h)
  case lookupUintptr => exact congrArg Instr.lookupUintptr (ptrOperand_onBus h)
  case bitwiseIntptr => exact congrArg Instr.bitwiseIntptr (ptrOperand_onBus h)
  case parallelIntptr => exact congrArg Instr.parallelIntptr (ptrOperand_onBus h)
  case lookupIntptr => exact congrArg Instr.lookupIntptr (ptrOperand_onBus h)
  all_goals simp [Instr.ofOperation, Instr.operation, Instr.operandBus]

/-- A width that the build has is no wider than its buses (R9). -/
theorem Config.bits_le_dataW {c : Config} {w : Width} (h : c.hasWidth w = true) : w.bits ≤ c.dataW := by
  have h64 : 64 ≤ c.dataW := by
    unfold Config.dataW Config.maxW
    split <;> decide
  cases w with
  | w128 => exact Nat.le_of_eq (if_pos ((hasWidth_w128 c).symm.trans h)).symm
  | w8 | w16 | w32 | w64 => exact Nat.le_trans (by decide) h64

/-- Decoding the encoding of a well-formed instruction gives it back. -/
theorem decode_encode {c : Config} {i : Instr} (h : i.wf c = true) : decode c (encode i) = .ok i := by
  obtain ⟨hw, hlt⟩ := Instr.wf_iff.mp h
  have ho : decodeOp c (encode i).op = .ok i.operation := decodeOp_selector (Operation.inBuild_iff.mpr hw)
  rw [decode_eq_ok ho]
  exact congrArg Except.ok (Instr.ofOperation_operandBus hlt)

/-- Settles O21: the selector decodes to the operation and the bus to the operand; the operand fits its width, which
fits the bus. -/
theorem decodeOfEncodeIsTheInstruction : Obligations.DecodeOfEncodeIsTheInstruction := by
  refine fun c i h => ⟨decode_encode h, decide_eq_true ?_⟩
  obtain ⟨hw, hlt⟩ := Instr.wf_iff.mp h
  exact Nat.lt_of_lt_of_le hlt (Nat.pow_le_pow_right (by decide) (Config.bits_le_dataW hw))

/-- The build has the width of a decoded instruction. -/
theorem hasWidth_of_decode {c : Config} {q : Request} {i : Instr} (h : decode c q = .ok i) :
    c.hasWidth (i.width c) = true := by
  obtain ⟨o, ho, rfl⟩ := decode_eq_ok_iff.mp h
  obtain ⟨-, hb⟩ := decodeOp_eq_ok_iff.mp ho
  rw [Instr.width, operation_ofOperation]
  exact Operation.inBuild_iff.mp hb

/-- The operand of a decoded instruction is the low W bits of the data (R65). -/
theorem operandBus_of_decode {c : Config} {q : Request} {i : Instr} (h : decode c q = .ok i) :
    i.operandBus = onBus (lowBits (i.width c) q.data) := by
  obtain ⟨o, -, rfl⟩ := decode_eq_ok_iff.mp h
  rw [operandBus_ofOperation, Instr.width, operation_ofOperation]

/-- A decoded instruction is the operation that the selector names. -/
theorem selector_of_decode {c : Config} {q : Request} {i : Instr} (h : decode c q = .ok i) :
    i.operation.selector = q.op := by
  obtain ⟨o, ho, rfl⟩ := decode_eq_ok_iff.mp h
  obtain ⟨hop, -⟩ := decodeOp_eq_ok_iff.mp ho
  rw [operation_ofOperation, hop]

/-- A decoded instruction is well formed. -/
theorem wf_of_decode {c : Config} {q : Request} {i : Instr} (h : decode c q = .ok i) : i.wf c = true := by
  refine Instr.wf_iff.mpr ⟨hasWidth_of_decode h, ?_⟩
  rw [operandBus_of_decode h]
  exact onBus_lt _

/-- Settles O22: the decoder reads back what the encoder would write. -/
theorem encodeOfDecodeIsTheRequest : Obligations.EncodeOfDecodeIsTheRequest := fun _ _ _ h =>
  ⟨wf_of_decode h, hasWidth_of_decode h, selector_of_decode h, operandBus_of_decode h⟩

/-- Two well-formed instructions of a build with the same encoding are the same. -/
theorem eq_of_encode_eq {c : Config} {i j : Instr} (hi : i.wf c = true) (hj : j.wf c = true)
    (h : encode i = encode j) : i = j :=
  Except.ok.inj ((decode_encode hi).symm.trans (h ▸ decode_encode hj))

/-- Settles O27: the two instructions are well formed and have the same encoding. -/
theorem dataBitsAboveTheWidthAreIgnored : Obligations.DataBitsAboveTheWidthAreIgnored := by
  intro c op o d e ho hlow
  have hd : decode c ⟨op, d⟩ = .ok (Instr.ofOperation c o d) := decode_eq_ok ho
  have he : decode c ⟨op, e⟩ = .ok (Instr.ofOperation c o e) := decode_eq_ok ho
  have henc : encode (Instr.ofOperation c o d) = encode (Instr.ofOperation c o e) := by
    simp only [encode, operation_ofOperation, operandBus_ofOperation, hlow]
  rw [hd, he, eq_of_encode_eq (wf_of_decode hd) (wf_of_decode he) henc]

end Sys2Proof
end

section
/-! The step relation of R33 with one constructor per step, and what an instruction does to an idle and to a BUSY block.
Later proofs split a step along these constructors. -/

namespace Sys2Proof.Machine

/-- At an idle block a Bitwise instruction is `accept-BW`. -/
theorem execOf_bitwise {c : Config} {i : Instr} {s : State} (hp : s.phase = .idle) (ha : i.operation.alg = .bitwise) :
    execOf c i s = .next (s.acceptBW (i.width c) (lowBits (i.width c) i.operandBus)) := by
  obtain ⟨-, h⟩ | ⟨ha', -⟩ | ⟨ha', -⟩ := execOf_forms c i s
  · exact h.trans (State.offer_idle c hp _)
  · exact nomatch ha.symm.trans ha'
  · exact nomatch ha.symm.trans ha'

/-- At an idle block a Parallel or Lookup instruction responds with the reversal of its operand. -/
theorem execOf_answer {c : Config} {i : Instr} {s : State} (hp : s.phase = .idle) (ha : i.operation.alg ≠ .bitwise) :
    execOf c i s = .next (s.respond (rev (lowBits (i.width c) i.operandBus))) := by
  obtain ⟨ha', -⟩ | ⟨-, h⟩ | ⟨-, h⟩ := execOf_forms c i s
  · exact absurd ha' ha
  · rw [h, parallel_eq_rev]
    exact State.offer_idle c hp _
  · rw [h, lookup_eq_rev]
    exact State.offer_idle c hp _

/-- At a BUSY block every instruction is the step of the operation in flight. -/
theorem execOf_busy {c : Config} {i : Instr} {s : State} (hp : s.phase = .busy) :
    execOf c i s = .next (s.advance c) := by
  obtain ⟨-, h⟩ | ⟨-, h⟩ | ⟨-, h⟩ := execOf_forms c i s <;> exact h.trans (State.offer_busy c hp _)

/-- The step relation of R33 in the build `c`: `refuse` apart, one constructor per row. -/
inductive StepsTo (c : Config) (s : State) : State → Prop
  /-- `reset`, in any PHASE. -/
  | reset (hr : s.wires.rst = true) : StepsTo c s (s.passPorts.resetStep c)
  /-- `idle`: nothing is presented. -/
  | idle (hp : s.phase = .idle) (hw : s.wires = ⟨false, none⟩) : StepsTo c s s.passPorts.idleStep
  /-- `iterate`: the operation in flight goes on, whatever is presented. -/
  | iterate (hp : s.phase = .busy) (hr : s.wires.rst = false) (hvp : s.bw.vp ≠ 0) : StepsTo c s s.passPorts.iterate
  /-- `complete`: the operation in flight responds, whatever is presented. -/
  | complete (hp : s.phase = .busy) (hr : s.wires.rst = false) (hvp : s.bw.vp = 0) :
      StepsTo c s (s.passPorts.complete c)
  /-- `accept-BW`. -/
  | acceptBW {q : Request} {i : Instr} (hp : s.phase = .idle) (hw : s.wires = ⟨false, some q⟩)
      (hd : decode c q = .ok i) (ha : i.operation.alg = .bitwise) :
      StepsTo c s (s.passPorts.acceptBW (i.width c) (lowBits (i.width c) q.data))
  /-- `accept-PAR` and `accept-LUT`. -/
  | answer {q : Request} {i : Instr} (hp : s.phase = .idle) (hw : s.wires = ⟨false, some q⟩)
      (hd : decode c q = .ok i) (ha : i.operation.alg ≠ .bitwise) :
      StepsTo c s (s.passPorts.respond (rev (lowBits (i.width c) q.data)))

/-- The low W bits of the operand of a decoded instruction are those of the data. -/
theorem lowBits_operandBus_of_decode {c : Config} {q : Request} {i : Instr} (h : decode c q = .ok i) :
    lowBits (i.width c) i.operandBus = lowBits (i.width c) q.data := by
  rw [operandBus_of_decode h, lowBits_onBus]

/-- A BUSY block that is not reset goes on with its operation. -/
theorem StepsTo.advance {c : Config} {s : State} (hp : s.phase = .busy) (hr : s.wires.rst = false) :
    StepsTo c s (s.passPorts.advance c) := by
  obtain ⟨hvp, h⟩ | ⟨hvp, h⟩ := State.advance_cases c s.passPorts
  · rw [h]
    exact .complete hp hr hvp
  · rw [h]
    exact .iterate hp hr hvp

/-- The step of a request that an idle block takes. -/
theorem StepsTo.taken {c : Config} {s t : State} {q : Request} {i : Instr} (hp : s.phase = .idle)
    (hw : s.wires = ⟨false, some q⟩) (hd : decode c q = .ok i) (h : execOf c i s.passPorts = .next t) :
    StepsTo c s t := by
  have hpp : s.passPorts.phase = .idle := hp
  by_cases ha : i.operation.alg = .bitwise
  · rw [execOf_bitwise hpp ha, lowBits_operandBus_of_decode hd] at h
    exact Host.Outcome.next.inj h ▸ .acceptBW hp hw hd ha
  · rw [execOf_answer hpp ha, lowBits_operandBus_of_decode hd] at h
    exact Host.Outcome.next.inj h ▸ .answer hp hw hd ha

/-- The relation is the step of the model, where that has a next state. -/
theorem stepOf_eq_next_iff {c : Config} {s t : State} : stepOf c s = .next t ↔ StepsTo c s t := by
  constructor
  · intro h
    obtain ⟨hr, rfl⟩ | ⟨hr, hq, rfl⟩ | ⟨q, hw, hp, rfl⟩ | ⟨q, i, hw, hp, hd, he⟩ := stepOf_cases h
    · exact .reset hr
    · cases hp : s.phase with
      | idle =>
        rw [State.quietStep_idle c (s := s.passPorts) hp]
        exact .idle hp (by rw [← hr, ← hq])
      | busy =>
        rw [State.quietStep_busy c (s := s.passPorts) hp]
        exact .advance hp hr
    · exact .advance hp (by rw [hw])
    · exact .taken hp hw hd he
  · rintro (hr | ⟨hp, hw⟩ | ⟨hp, hr, hvp⟩ | ⟨hp, hr, hvp⟩ | ⟨hp, hw, hd, ha⟩ | ⟨hp, hw, hd, ha⟩)
    · exact stepOf_rst hr
    · exact stepOf_none hw hp
    · rw [stepOf_busy hr hp, State.advance_of_ne c (s := s.passPorts) hvp]
    · rw [stepOf_busy hr hp, State.advance_of_eq c (s := s.passPorts) hvp]
    · rw [stepOf_idle_of_ok hw hp hd, execOf_bitwise (s := s.passPorts) hp ha, lowBits_operandBus_of_decode hd]
    · rw [stepOf_idle_of_ok hw hp hd, execOf_answer (s := s.passPorts) hp ha, lowBits_operandBus_of_decode hd]

/-- Whatever a step does, `rst` moves on. -/
theorem StepsTo.rstIn {c : Config} {s t : State} (h : StepsTo c s t) : t.rstIn = s.rstIn.tail := by cases h <;> rfl

/-- The same of the request channel. -/
theorem StepsTo.reqIn {c : Config} {s t : State} (h : StepsTo c s t) : t.reqIn = s.passPorts.reqIn := by
  cases h <;> rfl

/-- The step of the build at hand is one of these too. -/
theorem step_eq_next_iff {s t : State} : step s = .next t ↔ StepsTo Config.build s t := by
  rw [step_eq_stepOf, stepOf_eq_next_iff]

end Sys2Proof.Machine
end

section
/-! The iteration count of Bitwise (spec 41_bitwise.md R102, R103, 40_contract.md R91). -/

namespace Sys2Proof.Machine

variable {n : Nat}

/-- No width is 0. -/
theorem bits_pos (w : Width) : 0 < w.bits := by cases w <;> decide

/-- No bit of the operand is left above position j exactly when the count is at most j. -/
theorem ushiftRight_eq_zero_iff_iters_le (v : BitVec n) (j : Nat) : v >>> (j + 1) = 0 ↔ iters v ≤ j := by
  have hshift : v >>> (j + 1) = 0 ↔ v.toNat < 2 ^ (j + 1) := by
    rw [← BitVec.toNat_inj, BitVec.toNat_ushiftRight, Nat.shiftRight_eq_div_pow]
    exact Nat.div_eq_zero_iff_lt (Nat.two_pow_pos _)
  rw [hshift, iters, uval, ← Nat.lt_succ_iff]
  by_cases h0 : v.toNat = 0
  · simp [h0]
  · exact (Nat.log2_lt h0).symm

/-- The count is below the width. -/
theorem iters_lt (w : Width) (v : BitVec w.bits) : iters v < w.bits := by
  have h0 : v >>> (w.bits - 1 + 1) = 0 := BitVec.ushiftRight_eq_zero (by have := bits_pos w; omega)
  have := (ushiftRight_eq_zero_iff_iters_le v _).mp h0
  have := bits_pos w
  omega

/-- The loop test after j passes: VP is 0 exactly when the count is reached. -/
theorem AfterIterations.vp_eq_zero_iff {v : BitVec n} {j : Nat} {x : BwRegs n} (h : AfterIterations v j x) :
    x.vp = 0 ↔ iters v ≤ j := by
  obtain ⟨hvp, -, -⟩ := h
  rw [hvp]
  exact ushiftRight_eq_zero_iff_iters_le v j

end Sys2Proof.Machine
end

section
/-! The two invariants of a run: the operation in flight is one of the build's (R101), and what the registers and the
response hold fits the wires (R22, R34). -/

namespace Sys2Proof.Machine

/-- An idle block has no operation in flight. -/
theorem InFlight.of_idle {c : Config} {t : State} (h : t.phase = .idle) : InFlight c t :=
  fun hb => nomatch h.symm.trans hb

/-- An iterate step is one more pass of the loop, of which the count still had one to make. -/
theorem InFlight.iterate {c : Config} {s : State} (h : InFlight c s) (hp : s.phase = .busy) (hvp : s.bw.vp ≠ 0) :
    InFlight c s.passPorts.iterate := by
  obtain ⟨hw, v, j, -, hafter⟩ := h hp
  have hj : j < iters v := Nat.lt_of_not_le (hvp ∘ hafter.vp_eq_zero_iff.mpr)
  have hlt := iters_lt _ v
  refine fun _ => ⟨hw, v, j + 1, hj, ?_⟩
  rw [State.bw_iterate, State.bw_passPorts]
  exact hafter.pass (by omega)

/-- The build has the width of the operation in flight. -/
theorem InFlight.hasWidth {c : Config} {s : State} (h : InFlight c s) (hp : s.phase = .busy) :
    c.hasWidth s.wcur = true := by
  obtain ⟨hw, -⟩ := h hp
  exact hw

/-- Taking a Bitwise request puts an operation in flight, with no pass made. -/
theorem InFlight.acceptBW {c : Config} {w : Width} (hw : c.hasWidth w = true) (s : State) (v : BitVec w.bits) :
    InFlight c (s.acceptBW w v) := by
  refine fun _ => ⟨hw, v, 0, Nat.zero_le _, ?_⟩
  rw [State.bw_acceptBW]
  exact afterIterations_bwInit w v

/-- The step of a build keeps the operation in flight. -/
theorem StepsTo.inFlight {c : Config} {s t : State} (h : StepsTo c s t) (hs : InFlight c s) : InFlight c t := by
  cases h with
  | reset => exact .of_idle rfl
  | idle hp => exact .of_idle hp
  | iterate hp _ hvp => exact hs.iterate hp hvp
  | complete => exact .of_idle rfl
  | acceptBW _ _ hd _ => exact .acceptBW (hasWidth_of_decode hd) _ _
  | answer hp => exact .of_idle hp

/-- Settles O51: only `iterate` and `accept-BW` leave a BUSY block, and both give its registers the form of R101. -/
theorem stepKeepsTheOperationInFlight : Obligations.StepKeepsTheOperationInFlight :=
  ⟨fun _ _ hs h => (step_eq_next_iff.mp h).inFlight hs, fun _ _ _ hs h => (stepOf_eq_next_iff.mp h).inFlight hs⟩

/-- The countdown of an operation in flight fits S (R9, R25). -/
theorem InFlight.regS_lt {c : Config} {t : State} (h : InFlight c t) (hp : t.phase = .busy) :
    t.regS.toNat < 2 ^ c.swMax := by
  obtain ⟨hw, v, j, -, -, hs, -⟩ := h hp
  have hcount : t.regS.toNat = t.wcur.bits - 1 - j := hs
  have hpos := bits_pos t.wcur
  have hmax : t.wcur.bits ≤ 2 ^ c.swMax := by
    have h := Config.bits_le_dataW hw
    unfold Config.dataW Config.maxW at h
    unfold Config.swMax
    split <;> simp_all
  omega

/-- A value of a width that the build has fits MAXW and DATA_W. -/
theorem onBus_lt_dataW {c : Config} {w : Width} (hw : c.hasWidth w = true) (x : BitVec w.bits) :
    (onBus x).toNat < 2 ^ c.dataW :=
  Nat.lt_of_lt_of_le (onBus_lt x) (Nat.pow_le_pow_right (by decide) (Config.bits_le_dataW hw))

/-- Cutting a value to m bits leaves no bit at or above m. -/
theorem toNat_cut_lt {n k : Nat} (m : Nat) (x : BitVec n) : ((x.setWidth m).setWidth k).toNat < 2 ^ m := by
  rw [BitVec.toNat_setWidth]
  exact Nat.lt_of_le_of_lt (Nat.mod_le _ _) (x.setWidth m).isLt

/-- Registers that have become unspecified fit: the free values are cut to them (log 3). -/
theorem FitsTheWires.of_unspecify {c : Config} {s t : State} (hr : t.regR = (s.unspecify c).regR)
    (hvp : t.regVP = (s.unspecify c).regVP) (hs : t.regS = (s.unspecify c).regS)
    (hrsp : ∀ d, t.rsp = some d → d.toNat < 2 ^ c.dataW) : FitsTheWires c t := by
  refine ⟨?_, ?_, ?_, hrsp⟩
  · rw [hr]
    exact toNat_cut_lt _ _
  · rw [hvp]
    exact toNat_cut_lt _ _
  · rw [hs]
    exact toNat_cut_lt _ _

/-- Loaded registers fit, when the countdown does. -/
theorem FitsTheWires.of_load {c : Config} {w : Width} {x y : BitVec w.bits} {t : State} (hw : c.hasWidth w = true)
    (hr : t.regR = onBus x) (hvp : t.regVP = onBus y) (hs : t.regS.toNat < 2 ^ c.swMax) (hrsp : t.rsp = none) :
    FitsTheWires c t := by
  refine ⟨?_, ?_, hs, fun d hd => nomatch hrsp.symm.trans hd⟩
  · rw [hr]
    exact onBus_lt_dataW hw x
  · rw [hvp]
    exact onBus_lt_dataW hw y

/-- Registers that the step leaves fit as before, beside the new response. -/
theorem FitsTheWires.with_rsp {c : Config} {s : State} (h : FitsTheWires c s) {r : Option Bus}
    (hrsp : ∀ d, r = some d → d.toNat < 2 ^ c.dataW) : FitsTheWires c { s with rsp := r } := by
  obtain ⟨hr, hvp, hs, -⟩ := h
  exact ⟨hr, hvp, hs, hrsp⟩

/-- The step of a build keeps registers and response within their widths. -/
theorem StepsTo.fitsTheWires {c : Config} {s t : State} (h : StepsTo c s t) (hf : InFlight c s)
    (hs : FitsTheWires c s) : FitsTheWires c t := by
  have ht : InFlight c t := h.inFlight hf
  have hports : FitsTheWires c s.passPorts := hs
  cases h with
  | reset => exact .of_unspecify (s := s) rfl rfl rfl (fun _ h => nomatch h)
  | idle => exact hports.with_rsp (fun _ h => nomatch h)
  | iterate hp => exact .of_load (hf.hasWidth hp) rfl rfl (ht.regS_lt hp) rfl
  | complete hp =>
    refine .of_unspecify (s := s) rfl rfl rfl (fun _ h => ?_)
    cases h
    exact onBus_lt_dataW (hf.hasWidth hp) _
  | acceptBW _ _ hd _ => exact .of_load (hasWidth_of_decode hd) rfl rfl (ht.regS_lt rfl) rfl
  | answer _ _ hd _ =>
    refine hports.with_rsp (fun _ h => ?_)
    cases h
    exact onBus_lt_dataW (hasWidth_of_decode hd) _

/-- Settles O52: what a step loads is of the width of an operation of the build, and what it leaves unspecified is
cut. -/
theorem stepKeepsTheWiresFitting : Obligations.StepKeepsTheWiresFitting :=
  ⟨fun _ _ hf hs h => (step_eq_next_iff.mp h).fitsTheWires hf hs,
    fun _ _ _ hf hs h => (stepOf_eq_next_iff.mp h).fitsTheWires hf hs⟩

end Sys2Proof.Machine
end

section
/-! The Bitwise loop pass by pass (spec 41_bitwise.md R101 to R103): it makes `iters_W(v)` passes, and after each the
registers are those of R101. -/

namespace Sys2Proof.Machine

variable {n : Nat}

/-- R101, for every number of passes below the width. -/
theorem afterIterations_iterate (w : Width) (v : BitVec w.bits) (j : Nat) (hj : j < w.bits) :
    AfterIterations v j (bwStep^[j] (bwInit v)) := by
  induction j with
  | zero => exact afterIterations_bwInit w v
  | succ j ih =>
    rw [Function.iterate_succ_apply']
    exact (ih (by omega)).pass hj

/-- The loop test after j passes from the initial registers. -/
theorem vp_iterate_eq_zero_iff (w : Width) (v : BitVec w.bits) {j : Nat} (hj : j < w.bits) :
    (bwStep^[j] (bwInit v)).vp = 0 ↔ iters v ≤ j :=
  (afterIterations_iterate w v j hj).vp_eq_zero_iff

/-- A loop whose test holds before each of m passes, and not after them, makes m passes. -/
theorem bwLoop_eq_iterate {m fuel : Nat} {x : BwRegs n} (hfuel : m ≤ fuel)
    (hbefore : ∀ j, j < m → (bwStep^[j] x).vp ≠ 0) (hafter : (bwStep^[m] x).vp = 0) :
    bwLoop fuel x = bwStep^[m] x := by
  induction m generalizing x fuel with
  | zero =>
    cases fuel with
    | zero => rfl
    | succ fuel => exact if_pos hafter
  | succ m ih =>
    obtain ⟨fuel, rfl⟩ : ∃ f, fuel = f + 1 := ⟨fuel - 1, by omega⟩
    have hvp : x.vp ≠ 0 := hbefore 0 (Nat.succ_pos m)
    rw [bwLoop, if_neg hvp]
    exact ih (by omega) (fun j hj => hbefore (j + 1) (by omega)) hafter

/-- The loop makes `iters_W(v)` passes (R102). -/
theorem bwLoop_bwInit (w : Width) (v : BitVec w.bits) : bwLoop w.bits (bwInit v) = bwStep^[iters v] (bwInit v) := by
  have hlt := iters_lt w v
  refine bwLoop_eq_iterate (by omega) (fun j hj => ?_) ((vp_iterate_eq_zero_iff w v hlt).mpr (Nat.le_refl _))
  rw [Ne, vp_iterate_eq_zero_iff w v (by omega)]
  omega

/-- The registers at the exit of the loop. -/
theorem afterIterations_bwLoop (w : Width) (v : BitVec w.bits) :
    AfterIterations v (iters v) (bwLoop w.bits (bwInit v)) := by
  rw [bwLoop_bwInit]
  exact afterIterations_iterate w v _ (iters_lt w v)

/-- Settles O15: the loop stops at the first number of passes that leaves no bit of the operand in VP. -/
theorem loopInvariantAndResult : Obligations.LoopInvariantAndResult := by
  refine fun w v => ⟨afterIterations_iterate w v, ⟨iters v, iters_lt w v, ?_, fun j hj => ?_, bwLoop_bwInit w v⟩,
    bitwise_eq_rev w v⟩
  · exact (ushiftRight_eq_zero_iff_iters_le v _).mpr (Nat.le_refl _)
  · exact fun h0 => absurd ((ushiftRight_eq_zero_iff_iters_le v j).mp h0) (Nat.not_le.mpr hj)

/-- The count is 0 exactly for the operands 0 and 1. -/
theorem iters_eq_zero_iff (v : BitVec n) : iters v = 0 ↔ uval v ≤ 1 := by
  by_cases h0 : v.toNat = 0
  · simp [iters, uval, h0]
  · have h := Nat.log2_lt (k := 1) h0
    simp only [iters, uval]
    omega

/-- The count of an operand that is not 0 is the position of its highest 1 bit. -/
theorem getLsbD_iters {v : BitVec n} (h : uval v ≠ 0) : v.getLsbD (iters v) = true :=
  Nat.testBit_log2 h

/-- There is no 1 bit above the count. -/
theorem getLsbD_of_iters_lt {v : BitVec n} {k : Nat} (h : iters v < k) : v.getLsbD k = false := by
  obtain ⟨j, rfl⟩ : ∃ j, k = j + 1 := ⟨k - 1, by omega⟩
  have hbit := congrArg (BitVec.getLsbD · 0) ((ushiftRight_eq_zero_iff_iters_le v j).mpr (by omega))
  simpa using hbit

/-- Settles O16: the loop test fails first when the count is reached. -/
theorem loopRunsToTheHighestSetBit : Obligations.LoopRunsToTheHighestSetBit := by
  intro w v
  have hlt := iters_lt w v
  obtain ⟨-, hs, -⟩ := afterIterations_bwLoop w v
  refine ⟨bwLoop_bwInit w v, fun j hj => ?_, ?_, (iters_eq_zero_iff v).mpr, fun h => ⟨?_, fun k => ?_⟩, hs⟩
  · rw [Ne, vp_iterate_eq_zero_iff w v (by omega)]
    omega
  · exact (afterIterations_bwLoop w v).vp_eq_zero_iff.mpr (Nat.le_refl _)
  · exact getLsbD_iters (by omega)
  · exact getLsbD_of_iters_lt

/-- The count is W-1 exactly for the operands whose top bit is 1 (R91). -/
theorem iters_eq_top_iff (w : Width) (v : BitVec w.bits) : iters v = w.bits - 1 ↔ v.msb = true := by
  have hlt := iters_lt w v
  have hw : 1 < w.bits := by cases w <;> decide
  rw [BitVec.msb_eq_decide, decide_eq_true_iff]
  by_cases h0 : v.toNat = 0
  · have hit : iters v = 0 := by rw [iters, uval, h0, Nat.log2_zero]
    simp only [h0, hit]
    have := Nat.two_pow_pos (w.bits - 1)
    omega
  · rw [← Nat.le_log2 h0]
    change v.toNat.log2 < w.bits at hlt
    change v.toNat.log2 = w.bits - 1 ↔ _
    omega

/-- Settles O17: S counts down from W-1 with the passes, of which there are at most W-1. -/
theorem iterationCountBounds : Obligations.IterationCountBounds := by
  intro w v
  have hlt := iters_lt w v
  have hzero : uval v ≤ 1 ↔ v = 0 ∨ v = 1 := by
    have hw : 1 < 2 ^ w.bits := Nat.one_lt_two_pow (by have := bits_pos w; omega)
    rw [← BitVec.toNat_inj, ← BitVec.toNat_inj, uval]
    simp only [BitVec.ofNat_eq_ofNat, BitVec.toNat_ofNat, Nat.zero_mod, Nat.mod_eq_of_lt hw]
    omega
  refine ⟨by omega, iters_eq_top_iff w v, (iters_eq_zero_iff v).trans hzero, fun j hj => ?_⟩
  obtain ⟨-, hs, -⟩ := afterIterations_iterate w v j (by omega)
  refine ⟨by omega, fun hvp => ?_⟩
  rw [Ne, vp_iterate_eq_zero_iff w v (by omega)] at hvp
  omega

end Sys2Proof.Machine
end

section
/-! A whole operation, step by step: a Bitwise operation that is not reset makes one pass in each step until the count
is reached, and responds in the next (spec 41_bitwise.md R106, 60_exceptions.md R213). -/

namespace Sys2Proof.Machine

/-- The last of the steps of a run. -/
theorem run_succ_of_run {c : Config} {k : Nat} {s t : State} (h : (machineOf c).run k s = .next t) :
    (machineOf c).run (k + 1) s = stepOf c t := by
  induction k generalizing s with
  | zero =>
    rw [← Host.Outcome.next.inj h, run_succ]
    cases stepOf c s <;> rfl
  | succ k ih =>
    rw [run_succ] at h ⊢
    cases hs : stepOf c s with
    | next u =>
      rw [hs] at h
      exact ih h
    | fault f => exact nomatch f
    | refused r =>
      rw [hs] at h
      cases h

/-- A run of one step is the step. -/
theorem run_one (c : Config) (s : State) : (machineOf c).run 1 s = stepOf c s := run_succ_of_run rfl

/-- `rst` is 0 in step j, when it is 0 in each of the first k. -/
theorem NoResetIn.rst_eq_false {k j : Nat} {s t : State} (h : NoResetIn k s) (hj : j < k)
    (ht : t.rstIn = s.rstIn.drop j) : t.wires.rst = false := by
  change t.rstIn.headD false = false
  rw [ht]
  cases hd : s.rstIn.drop j with
  | nil => rfl
  | cons b l =>
    refine h b (List.mem_of_getElem? (i := j) ?_)
    have hb := List.getElem?_drop (xs := s.rstIn) (i := j) (j := 0)
    rw [hd] at hb
    rw [List.getElem?_take_of_lt hj]
    exact hb.symm

/-- Fewer steps without reset. -/
theorem NoResetIn.mono {j k : Nat} {s : State} (h : NoResetIn k s) (hj : j ≤ k) : NoResetIn j s :=
  fun b hb => h b (List.take_subset_take_left s.rstIn hj hb)

/-- A BUSY block after j passes of the Bitwise operation on `v` at width `w`. Unlike `InFlight` it names the operand
and the number of passes made. -/
def AtPass {w : Width} (v : BitVec w.bits) (j : Nat) (s : State) : Prop :=
  s.phase = .busy ∧ s.wcur = w ∧ AfterIterations v j ⟨lowBits w s.regR, lowBits w s.regVP, s.regS⟩

/-- The step that takes the request leaves the operation with no pass made. -/
theorem AtPass.acceptBW {w : Width} (v : BitVec w.bits) (s : State) : AtPass v 0 (s.acceptBW w v) := by
  refine ⟨rfl, rfl, ?_⟩
  have h := afterIterations_bwInit w v
  rw [← s.bw_acceptBW w v] at h
  exact h

/-- Below the count, a step without reset makes one more pass. -/
theorem AtPass.iterate {c : Config} {w : Width} {v : BitVec w.bits} {j : Nat} {s : State} (h : AtPass v j s)
    (hr : s.wires.rst = false) (hj : j < iters v) :
    ∃ t, StepsTo c s t ∧ AtPass v (j + 1) t ∧ t.rsp = none := by
  obtain ⟨hp, rfl, hafter⟩ := h
  have hlt := iters_lt _ v
  have hvp : s.bw.vp ≠ 0 := fun h0 => absurd (hafter.vp_eq_zero_iff.mp h0) (by omega)
  refine ⟨_, .iterate hp hr hvp, ⟨hp, rfl, ?_⟩, rfl⟩
  have hpass : AfterIterations v (j + 1) s.passPorts.iterate.bw := by
    rw [State.bw_iterate, State.bw_passPorts]
    exact hafter.pass (by omega)
  exact hpass

/-- At the count, a step without reset responds with the reversal. -/
theorem AtPass.complete {c : Config} {w : Width} {v : BitVec w.bits} {s : State} (h : AtPass v (iters v) s)
    (hr : s.wires.rst = false) :
    ∃ t, StepsTo c s t ∧ t.phase = .idle ∧ t.rsp = some ((rev v).setWidth 128) := by
  obtain ⟨hp, rfl, hafter⟩ := h
  have hvp : s.bw.vp = 0 := hafter.vp_eq_zero_iff.mpr (Nat.le_refl _)
  have hresult : bwResult s.bw = rev v := hafter.bwResult_eq_rev (iters_lt _ v) hvp
  exact ⟨_, .complete hp hr hvp, rfl, congrArg (fun x => some (onBus x)) hresult⟩

/-- What stands on the ports of a block that is presented a request and not reset. -/
theorem wires_of_req {s : State} {q : Request} (hr : s.wires.rst = false) (hq : s.wires.req = some q) :
    s.wires = ⟨false, some q⟩ := by
  rw [← hr, ← hq]

/-- The first j + 1 steps of a Bitwise operation: the request is taken, and j passes are made. -/
theorem run_bitwise {c : Config} {s : State} {q : Request} {i : Instr} (hp : s.phase = .idle)
    (hq : s.wires.req = some q) (hd : decode c q = .ok i) (ha : i.operation.alg = .bitwise) {j k : Nat}
    (hj : j ≤ iters (lowBits (i.width c) q.data)) (hk : j < k) (hn : NoResetIn k s) :
    ∃ t : State, (machineOf c).run (j + 1) s = .next t ∧ AtPass (lowBits (i.width c) q.data) j t ∧ t.rsp = none ∧
      t.rstIn = s.rstIn.drop (j + 1) := by
  induction j with
  | zero =>
    have hr : s.wires.rst = false := hn.rst_eq_false hk rfl
    have hstep : StepsTo c s _ := .acceptBW hp (wires_of_req hr hq) hd ha
    refine ⟨_, (run_one c s).trans (stepOf_eq_next_iff.mpr hstep), AtPass.acceptBW _ _, rfl, ?_⟩
    rw [hstep.rstIn, List.drop_one]
  | succ j ih =>
    obtain ⟨u, hrun, hu, -, hrst⟩ := ih (by omega) (by omega)
    obtain ⟨t, hstep, ht, hrsp⟩ := hu.iterate (hn.rst_eq_false hk hrst) (by omega)
    refine ⟨t, (run_succ_of_run hrun).trans (stepOf_eq_next_iff.mpr hstep), ht, hrsp, ?_⟩
    rw [hstep.rstIn, hrst, List.tail_drop]

/-- A Bitwise operation responds in step 2 + iters_W(v). -/
theorem run_bitwise_answer {c : Config} {s : State} {q : Request} {i : Instr} (hp : s.phase = .idle)
    (hq : s.wires.req = some q) (hd : decode c q = .ok i) (ha : i.operation.alg = .bitwise)
    (hn : NoResetIn (iters (lowBits (i.width c) q.data) + 2) s) :
    ∃ t : State, (machineOf c).run (iters (lowBits (i.width c) q.data) + 2) s = .next t ∧ t.phase = .idle ∧
      t.rsp = some ((rev (lowBits (i.width c) q.data)).setWidth 128) := by
  obtain ⟨u, hrun, hu, -, hrst⟩ := run_bitwise hp hq hd ha (Nat.le_refl _) (by omega) hn
  obtain ⟨t, hstep, ht⟩ := hu.complete (hn.rst_eq_false (by omega) hrst)
  exact ⟨t, (run_succ_of_run hrun).trans (stepOf_eq_next_iff.mpr hstep), ht⟩

/-- An idle block is ready (R34). -/
theorem reqReady_eq_true {t : State} (h : t.phase = .idle) : t.reqReady = true := decide_eq_true h

/-- A BUSY block is not ready. -/
theorem reqReady_eq_false {t : State} (h : t.phase = .busy) : t.reqReady = false :=
  decide_eq_false fun hi => nomatch h.symm.trans hi

/-- Settles O53: one step takes the request, one makes each pass, one responds. -/
theorem bitwiseOperationAnswersInItsStepCount : Obligations.BitwiseOperationAnswersInItsStepCount := by
  intro c s q i hp hq hd ha hn
  refine ⟨?_, fun k hk hle => ?_⟩
  · obtain ⟨t, hrun, hidle, hrsp⟩ := run_bitwise_answer hp hq hd ha hn
    exact ⟨t, hrun, hidle, reqReady_eq_true hidle, hrsp⟩
  · obtain ⟨j, rfl⟩ : ∃ j, k = j + 1 := ⟨k - 1, by omega⟩
    obtain ⟨t, hrun, ⟨hbusy, -⟩, hrsp, -⟩ := run_bitwise (j := j) hp hq hd ha (by omega) (by omega) hn
    exact ⟨t, hrun, hbusy, reqReady_eq_false hbusy, hrsp⟩

/-- Settles O54: Parallel and Lookup respond in the step that takes the request, Bitwise after its passes. -/
theorem everyRequestIsAnsweredWithItsReversal : Obligations.EveryRequestIsAnsweredWithItsReversal := by
  intro c s q i hp hq hd hn
  by_cases ha : i.operation.alg = .bitwise
  · have hlt := iters_lt _ (lowBits (i.width c) q.data)
    obtain ⟨t, ht⟩ := run_bitwise_answer hp hq hd ha (hn.mono (by omega))
    exact ⟨_, t, by omega, by omega, fun h => absurd ha h, ht⟩
  · have hr : s.wires.rst = false := hn.rst_eq_false (Nat.succ_pos _) rfl
    have hstep : StepsTo c s _ := .answer hp (wires_of_req hr hq) hd ha
    exact ⟨1, _, Nat.le_refl 1, by omega, fun _ => rfl, (run_one c s).trans (stepOf_eq_next_iff.mpr hstep), hp, rfl⟩

end Sys2Proof.Machine
end

section
/-! Where BUSY and responses come from (spec 10_state.md R33). -/

namespace Sys2Proof.Machine

/-- What `accept-BW` leaves, as the statements say it. -/
theorem tookBitwise_acceptBW (s : State) (w : Width) (v : BitVec w.bits) : TookBitwise s (s.acceptBW w v) w v :=
  ⟨rfl, rfl, lowBits_onBus w v, lowBits_onBus w (v >>> 1), bwInit_s_toNat w v, rfl, rfl, rfl, rfl⟩

/-- Settles O49: of the steps of an idle block, `accept-BW` alone leaves it BUSY. -/
theorem onlyBitwiseRequestsMakeTheBlockBusy : Obligations.OnlyBitwiseRequestsMakeTheBlockBusy := by
  intro s t hidle h hbusy
  cases step_eq_next_iff.mp h with
  | reset => cases hbusy
  | idle hp => exact nomatch hidle.symm.trans hbusy
  | iterate hp => exact nomatch hidle.symm.trans hp
  | complete => cases hbusy
  | acceptBW _ hw hd ha => exact ⟨_, _, hw, hd, ha, tookBitwise_acceptBW _ _ _⟩
  | answer hp => exact nomatch hidle.symm.trans hbusy

/-- Settles O50: of all steps, `complete` and the answer of an idle block alone respond. -/
theorem responsesComeOnlyFromOperations : Obligations.ResponsesComeOnlyFromOperations := by
  intro s t d h hrsp
  cases step_eq_next_iff.mp h with
  | reset => cases hrsp
  | idle => cases hrsp
  | iterate => cases hrsp
  | acceptBW => cases hrsp
  | complete hp hr hvp =>
    cases hrsp
    exact ⟨hr, rfl, .inl ⟨hp, hvp, onBus_lt _⟩⟩
  | answer hp hw hd ha =>
    cases hrsp
    exact ⟨by rw [hw], hp, .inr ⟨hp, _, _, hw, hd, ha, onBus_lt _⟩⟩

end Sys2Proof.Machine
end

section
/-! The selectors one by one (spec 30_encoding.md R67 to R69, R74): which name an operation, and which are reserved and
why. -/

namespace Sys2Proof

/-- A table of codes and operations is the operation map, when each code in it is the selector of its operation and no
operation is missing. -/
theorem mem_table_iff {table : List (BitVec 6 × Operation)} (sound : ∀ row ∈ table, row.1 = row.2.selector)
    (complete : ∀ o : Operation, (o.selector, o) ∈ table) {op : BitVec 6} {o : Operation} :
    (op, o) ∈ table ↔ op = o.selector :=
  ⟨sound (op, o), fun h => h ▸ complete o⟩

/-- With EN128 every operation is in the build (R7). -/
theorem Operation.inBuild_of_en128 {c : Config} (h : c.en128 = true) (o : Operation) : o.InBuild c := by
  simp [Operation.InBuild, h]

/-- Settles O23: the 36 codes are the selectors of the 36 operations. -/
theorem operationMapHasThirtySixCodes : Obligations.OperationMapHasThirtySixCodes := by
  intro c op o hc
  have hok : decodeOp c op = .ok o ↔ op = o.selector :=
    decodeOp_eq_ok_iff.trans (and_iff_left (Operation.inBuild_of_en128 hc o))
  refine hok.trans (mem_table_iff (by decide) ?_).symm
  rintro ⟨_ | _ | _, (_ | _ | _ | _ | _) | _, _ | _⟩ <;> decide

/-- What the decoder makes of a selector, its reasons for refusing in the order of R74. -/
theorem decodeOp_cases (c : Config) (op : BitVec 6) :
    (Request.algField op = 0b11#2 ∧ decodeOp c op = .error .alg) ∨
    (Request.algField op ≠ 0b11#2 ∧ (Request.wselField op = 0b110#3 ∨ Request.wselField op = 0b111#3) ∧
      decodeOp c op = .error .wsel) ∨
    (Request.algField op ≠ 0b11#2 ∧ Request.wselField op = 0b100#3 ∧ c.en128 = false ∧
      decodeOp c op = .error .width128) ∨
    (Request.algField op ≠ 0b11#2 ∧ ¬ (Request.wselField op = 0b110#3 ∨ Request.wselField op = 0b111#3) ∧
      ¬ (Request.wselField op = 0b100#3 ∧ c.en128 = false) ∧ ∃ o, decodeOp c op = .ok o) := by
  rw [← widthNameOfCode_eq_none_iff, Ne, ← algOfCode_eq_none_iff, decodeOp]
  cases algOfCode (Request.algField op) with
  | none => exact .inl ⟨rfl, rfl⟩
  | some a =>
    refine .inr ?_
    cases hn : widthNameOfCode (Request.wselField op) with
    | none => exact .inl ⟨nofun, rfl, rfl⟩
    | some n =>
      refine .inr ?_
      have hw : Request.wselField op = 0b100#3 ↔ n = .fixed .w128 := by
        have hcode := widthNameOfCode_eq_some_iff (x := Request.wselField op) (n := .fixed .w128)
        rw [hn, Option.some_inj] at hcode
        exact hcode.symm
      rw [hw]
      by_cases h : n = .fixed .w128 ∧ c.en128 = false
      · obtain ⟨hn128, hc⟩ := h
        exact .inl ⟨nofun, hn128, hc, if_pos ⟨hn128, hc⟩⟩
      · exact .inr ⟨nofun, nofun, h, _, if_neg h⟩

/-- Settles O24: the three reasons exclude each other, and the codes are counted one by one. -/
theorem reservedSelectorsAreExactlyThese : Obligations.ReservedSelectorsAreExactlyThese := by
  refine ⟨fun c op => ?_, fun p => ⟨rfl, rfl⟩⟩
  change (_ ↔ Request.algField op = _) ∧
    (_ ↔ Request.algField op ≠ _ ∧ (Request.wselField op = _ ∨ Request.wselField op = _)) ∧
    (_ ↔ Request.algField op ≠ _ ∧ Request.wselField op = _ ∧ _)
  obtain ⟨ha, h⟩ | ⟨ha, hw, h⟩ | ⟨ha, hw, hc, h⟩ | ⟨ha, hw, hc, o, h⟩ := decodeOp_cases c op
  · simp [h, ha]
  · rcases hw with hw | hw <;> simp [h, ha, hw]
  · simp [h, ha, hw, hc]
  · simp [h, ha, hw, hc]

/-- Settles O25: EN128 matters to WSEL = 100 only. -/
theorem otherWidthsDecodeAlikeWithoutEn128 : Obligations.OtherWidthsDecodeAlikeWithoutEn128 := by
  intro p op hop
  have hn : widthNameOfCode (Request.wselField op) ≠ some (.fixed .w128) := fun h =>
    hop (widthNameOfCode_eq_some_iff.mp h)
  unfold decodeOp
  split
  · rfl
  · split
    · rfl
    · rename_i n h
      have hne : n ≠ .fixed .w128 := fun he => hn (he ▸ h)
      simp only [hne, false_and, if_false]

/-- Settles O26: each word by evaluating the decoder on it. -/
theorem writtenOutWordsDecode : Obligations.WrittenOutWordsDecode := by
  unfold Obligations.WrittenOutWordsDecode
  decide

end Sys2Proof
end

section
/-! Two states that differ only in what no step reads cannot be told apart (spec 10_state.md R21, R39), and neither can
two builds by the requests that both read alike (30_encoding.md R69). -/

namespace Sys2Proof.Machine

/-- Two states that the coming step treats alike: `SameView`, but for the response of the step before. -/
def SameCourse (s t : State) : Prop := SameView s { t with rsp := s.rsp }

/-- A response that has been given is not read again. -/
theorem SameView.sameCourse {s t : State} (h : SameView s t) : SameCourse s t := by
  obtain ⟨hp, -, hrst, hreq, hbusy⟩ := h
  exact ⟨hp, rfl, hrst, hreq, hbusy⟩

/-- Nothing but the inputs to come counts in an idle state (R39). -/
theorem SameCourse.of_idle {s t : State} (hs : s.phase = .idle) (ht : t.phase = .idle) (hrst : s.rstIn = t.rstIn)
    (hreq : s.reqIn = t.reqIn) : SameCourse s t :=
  ⟨hs.trans ht.symm, rfl, hrst, hreq, fun hb => nomatch hs.symm.trans hb⟩

section

variable {s t : State}

/-- Both are idle, or both are BUSY. -/
theorem SameCourse.phase_eq (h : SameCourse s t) : s.phase = t.phase := h.1

/-- The same stands on the ports of both. -/
theorem SameCourse.wires_eq (h : SameCourse s t) : s.wires = t.wires := by
  obtain ⟨-, -, hrst, hreq, -⟩ := h
  exact congrArg₂ (fun a b => Stimulus.mk (a.headD false) (b.headD none)) hrst hreq

/-- The ports of both move on alike. -/
theorem SameCourse.passPorts (h : SameCourse s t) : SameCourse s.passPorts t.passPorts := by
  have hholds : s.holds = t.holds := by rw [State.holds, State.holds, h.wires_eq, h.phase_eq]
  obtain ⟨hp, -, hrst, hreq, hbusy⟩ := h
  refine ⟨hp, rfl, congrArg List.tail hrst, ?_, hbusy⟩
  exact congrArg₂ (fun (b : Bool) l => if b then l else l.tail) hholds hreq

/-- Steps of both that use no input and leave them idle, with the same response, keep them so. -/
theorem SameCourse.sameView_of_idle (h : SameCourse s t) {s' t' : State} (hs : s'.phase = .idle) (ht : t'.phase = .idle)
    (hrsp : s'.rsp = t'.rsp) (hsin : s'.rstIn = s.rstIn ∧ s'.reqIn = s.reqIn)
    (htin : t'.rstIn = t.rstIn ∧ t'.reqIn = t.reqIn) : SameView s' t' := by
  obtain ⟨-, -, hrst, hreq, -⟩ := h
  obtain ⟨hsrst, hsreq⟩ := hsin
  obtain ⟨htrst, htreq⟩ := htin
  exact ⟨hs.trans ht.symm, hrsp, hsrst.trans (hrst.trans htrst.symm), hsreq.trans (hreq.trans htreq.symm),
    fun hb => nomatch hs.symm.trans hb⟩

/-- The same registers loaded into both keep them so. -/
theorem SameCourse.loadRegs (h : SameCourse s t) (w : Width) (x : BwRegs w.bits) :
    SameView (s.loadRegs w x) (t.loadRegs w x) := by
  obtain ⟨hp, -, hrst, hreq, -⟩ := h
  exact ⟨hp, rfl, hrst, hreq, fun _ => ⟨rfl, rfl, rfl, rfl⟩⟩

/-- So does the same Bitwise request taken by both. -/
theorem SameCourse.acceptBW (h : SameCourse s t) (w : Width) (v : BitVec w.bits) :
    SameView (s.acceptBW w v) (t.acceptBW w v) := by
  obtain ⟨-, -, hrst, hreq, -⟩ := h
  exact ⟨rfl, rfl, hrst, hreq, fun _ => ⟨rfl, rfl, rfl, rfl⟩⟩

end

/-- What a step reads of the operation in flight: its width and its registers at that width. -/
def State.flight (s : State) : Σ w : Width, BwRegs w.bits := ⟨s.wcur, s.bw⟩

/-- The step of an operation in flight reads nothing else of the working registers. -/
theorem State.advance_eq_of_flight (c : Config) (s : State) :
    s.advance c = if s.flight.2.vp = 0 then s.complete c else s.loadRegs s.flight.1 (bwStep s.flight.2) := rfl

/-- The response of the complete step, in the same terms. -/
theorem State.complete_rsp_of_flight (c : Config) (s : State) :
    (s.complete c).rsp = some (onBus (bwResult s.flight.2)) := rfl

/-- BUSY blocks on the same course have the same operation in flight. -/
theorem SameCourse.flight_eq {s t : State} (h : SameCourse s t) (hp : s.phase = .busy) : s.flight = t.flight := by
  obtain ⟨-, -, -, -, hbusy⟩ := h
  obtain ⟨hw, hr, hvp, hs⟩ := hbusy hp
  cases t
  change s.wcur = _ at hw
  subst hw
  simp only [State.flight, State.bw, hr, hvp, hs]

/-- Their next steps, in any two builds, cannot be told apart. -/
theorem SameCourse.advance {s t : State} (h : SameCourse s t) (hp : s.phase = .busy) (c c' : Config) :
    SameView (s.advance c) (t.advance c') := by
  have hf := h.flight_eq hp
  rw [State.advance_eq_of_flight, State.advance_eq_of_flight, ← hf]
  split
  · refine h.sameView_of_idle rfl rfl ?_ ⟨rfl, rfl⟩ ⟨rfl, rfl⟩
    rw [State.complete_rsp_of_flight, State.complete_rsp_of_flight, hf]
  · exact h.loadRegs _ _

/-- The same algorithm, effective width and data offered to two idle blocks, in any two builds. -/
theorem SameCourse.offerEffective {s t : State} (h : SameCourse s t) (hp : s.phase = .idle) (c c' : Config)
    (e : Alg × Width) (d : Bus) : SameOutcome (s.offerEffective c e d) (t.offerEffective c' e d) := by
  have ht : t.phase = .idle := h.phase_eq ▸ hp
  obtain ⟨_ | _ | _, w⟩ := e <;>
    simp only [State.offerEffective, State.offerBitwise, State.offerResult, State.offer_idle _ hp,
      State.offer_idle _ ht, SameOutcome]
  · exact h.acceptBW w _
  · exact h.sameView_of_idle hp ht rfl ⟨rfl, rfl⟩ ⟨rfl, rfl⟩
  · exact h.sameView_of_idle hp ht rfl ⟨rfl, rfl⟩ ⟨rfl, rfl⟩

/-- Two builds read a selector alike: as the same algorithm and effective width, or as reserved for the same reason. -/
def ReadAlike (c c' : Config) (op : BitVec 6) : Prop :=
  (decodeOp c op).map (Operation.effective c) = (decodeOp c' op).map (Operation.effective c')

/-- A request that both builds read alike, presented to two idle blocks. -/
theorem SameCourse.step_idle {c c' : Config} {s t : State} {q : Request} (h : SameCourse s t) (hp : s.phase = .idle)
    (hw : s.wires = ⟨false, some q⟩) (hq : ReadAlike c c' q.op) : SameOutcome (stepOf c s) (stepOf c' t) := by
  have ht : t.phase = .idle := h.phase_eq ▸ hp
  have hwt : t.wires = ⟨false, some q⟩ := h.wires_eq ▸ hw
  unfold ReadAlike at hq
  cases ho : decodeOp c q.op <;> cases ho' : decodeOp c' q.op <;> rw [ho, ho'] at hq
  case error.error =>
    rw [stepOf_idle_of_error hw hp (decode_eq_error_iff.mpr ho),
      stepOf_idle_of_error hwt ht (decode_eq_error_iff.mpr ho'), Except.error.inj hq]
    exact rfl
  case error.ok => cases hq
  case ok.error => cases hq
  case ok.ok o o' =>
    rw [stepOf_idle_of_ok hw hp (decode_eq_ok ho), stepOf_idle_of_ok hwt ht (decode_eq_ok ho'), execOf_ofOperation,
      execOf_ofOperation, Except.ok.inj hq]
    exact h.passPorts.offerEffective hp c c' _ _

/-- One step of two builds, in states on the same course, when both builds read the presented request alike. -/
theorem SameCourse.step {c c' : Config} {s t : State} (h : SameCourse s t)
    (hq : ∀ q, s.wires.req = some q → ReadAlike c c' q.op) : SameOutcome (stepOf c s) (stepOf c' t) := by
  have hports := h.passPorts
  rcases hw : s.wires with ⟨_ | _, req⟩
  case true =>
    rw [stepOf_rst (by rw [hw]), stepOf_rst (by rw [← h.wires_eq, hw])]
    exact hports.sameView_of_idle rfl rfl rfl ⟨rfl, rfl⟩ ⟨rfl, rfl⟩
  case false =>
    cases hp : s.phase with
    | busy =>
      rw [stepOf_busy (by rw [hw]) hp, stepOf_busy (by rw [← h.wires_eq, hw]) (h.phase_eq ▸ hp)]
      exact hports.advance hp c c'
    | idle =>
      cases req with
      | none =>
        have ht : t.phase = .idle := h.phase_eq ▸ hp
        rw [stepOf_none hw hp, stepOf_none (h.wires_eq ▸ hw) ht]
        exact hports.sameView_of_idle hp ht rfl ⟨rfl, rfl⟩ ⟨rfl, rfl⟩
      | some q => exact h.step_idle hp hw (hq q (by rw [hw]))

/-- Settles O58: a build reads every request as itself. -/
theorem stepKeepsTheView : Obligations.StepKeepsTheView := by
  have hstep : ∀ (c : Config) (s t : State), SameView s t → SameOutcome (stepOf c s) (stepOf c t) :=
    fun c _ _ h => h.sameCourse.step fun _ _ => rfl
  refine ⟨fun s t h => ?_, hstep⟩
  rw [step_eq_stepOf, step_eq_stepOf]
  exact hstep Config.build s t h

/-- What a step leaves to be presented was to be presented before it. -/
theorem StepsTo.reqIn_subset {c : Config} {s t : State} (h : StepsTo c s t) : t.reqIn ⊆ s.reqIn := by
  rw [h.reqIn, State.passPorts_reqIn]
  split
  · exact List.Subset.refl _
  · exact List.tail_subset _

/-- A request on the ports is one of those to be presented. -/
theorem mem_reqIn_of_wires {s : State} {q : Request} (h : s.wires.req = some q) : some q ∈ s.reqIn := by
  change s.reqIn.headD none = some q at h
  cases hl : s.reqIn with
  | nil => rw [hl] at h; cases h
  | cons r rest => rw [hl] at h; exact h ▸ List.mem_cons_self

/-- Runs that go on alike from the outcomes of their first step are alike. -/
theorem sameOutcome_run_succ {c c' : Config} {s t : State} {k : Nat} (h : SameOutcome (stepOf c s) (stepOf c' t))
    (hrun : ∀ s' t', stepOf c s = .next s' → SameView s' t' →
      SameOutcome ((machineOf c).run k s') ((machineOf c').run k t')) :
    SameOutcome ((machineOf c).run (k + 1) s) ((machineOf c').run (k + 1) t) := by
  rw [run_succ, run_succ]
  cases hs : stepOf c s <;> cases ht : stepOf c' t <;> rw [hs, ht] at h
  case next.next => exact hrun _ _ hs h
  case refused.refused => exact h
  all_goals exact h.elim

/-- Any number of steps of two builds that read alike all that is to be presented. -/
theorem SameView.run {c c' : Config} {s t : State} (k : Nat) (h : SameView s t)
    (hq : ∀ q, some q ∈ s.reqIn → ReadAlike c c' q.op) :
    SameOutcome ((machineOf c).run k s) ((machineOf c').run k t) := by
  induction k generalizing s t with
  | zero => exact h
  | succ k ih =>
    refine sameOutcome_run_succ (h.sameCourse.step fun q hw => hq q (mem_reqIn_of_wires hw)) fun s' t' hs hv => ?_
    exact ih hv fun q hm => hq q ((stepOf_eq_next_iff.mp hs).reqIn_subset hm)

/-- Settles O55: idle blocks with the same inputs take the same course, and are in the same view after one step. -/
theorem nothingSurvivesAnOperation : Obligations.NothingSurvivesAnOperation := by
  intro c s t k hs ht hrst hreq hk
  obtain ⟨j, rfl⟩ : ∃ j, k = j + 1 := ⟨k - 1, by omega⟩
  exact sameOutcome_run_succ ((SameCourse.of_idle hs ht hrst hreq).step fun _ _ => rfl)
    fun _ _ _ hv => hv.run j fun _ _ => rfl

/-- Builds that differ in EN128 alone read every selector alike whose WSEL is not 100 (R69). -/
theorem readAlike_of_wsel_ne (p : PtrWidth) {op : BitVec 6} (h : op.extractLsb' 2 3 ≠ 0b100#3) :
    ReadAlike ⟨true, p⟩ ⟨false, p⟩ op := by
  have heff : Operation.effective ⟨true, p⟩ = Operation.effective ⟨false, p⟩ := by
    funext ⟨a, n, g⟩
    cases n <;> rfl
  rw [ReadAlike, otherWidthsDecodeAlikeWithoutEn128 p op h, heff]

/-- Settles O59: the two builds read alike every request that is to come. -/
theorem leavingOutWidth128ChangesNothingElse : Obligations.LeavingOutWidth128ChangesNothingElse :=
  fun p _ _ k h hq => h.run k fun q hm => readAlike_of_wsel_ne p (hq q hm)

/-- Settles O60: dispatch and step are those of the family, hence the machine is. -/
theorem theMachineIsThatOfItsBuild : Obligations.TheMachineIsThatOfItsBuild := by
  refine ⟨exec_eq_execOf, step_eq_stepOf, ?_⟩
  have hstep : step = stepOf Config.build := funext step_eq_stepOf
  rw [Sys2Proof.core, machineOf, hstep]

end Sys2Proof.Machine
end

section
/-! What each of the 36 instructions does to an idle block: `accept-BW` for Bitwise, the reversal as the response for
Parallel and Lookup, at the effective width (spec 41_bitwise.md, 42_parallel.md, 43_lookup.md, 44_signed_adapter.md and
45_pointer_width.md). -/

namespace Sys2Proof.Machine

/-- A Bitwise instruction with operand `v` of width `w`. -/
theorem execOf_takes {s : State} (hp : s.phase = .idle) (c : Config) (i : Instr) (ha : i.operation.alg = .bitwise)
    {w : Width} (hw : i.width c = w) {v : BitVec w.bits} (hv : lowBits w i.operandBus = v) :
    ∃ t, execOf c i s = .next t ∧ TookBitwise s t w v := by
  subst hw hv
  exact ⟨_, execOf_bitwise hp ha, tookBitwise_acceptBW s _ _⟩

/-- A Parallel or Lookup instruction with operand `v` of width `w`. -/
theorem execOf_responds {s : State} (hp : s.phase = .idle) (c : Config) (i : Instr) (ha : i.operation.alg ≠ .bitwise)
    {w : Width} (hw : i.width c = w) {v : BitVec w.bits} (hv : lowBits w i.operandBus = v) :
    execOf c i s = .next { s with rsp := some ((rev v).setWidth 128) } := by
  subst hw hv
  exact execOf_answer hp ha

/-- The operand that a pointer-width instruction reads: the low PTR_W bits (R190). -/
theorem lowBits_ptr (c : Config) (v : BitVec 64) :
    lowBits c.ptrW.width (v.setWidth 128) = v.setWidth c.ptrW.width.bits :=
  lowBits_setWidth _ (by cases c.ptrW <;> decide) v

/-- Settles O28: the five unsigned Bitwise forms are `accept-BW`. -/
theorem bitwiseUnsignedTakesTheRequest : Obligations.BitwiseUnsignedTakesTheRequest := by
  intro s hp
  simp only [exec_eq_execOf]
  exact ⟨fun v => execOf_takes hp _ (.bitwiseUint8 v) rfl rfl (lowBits_onBus .w8 v),
    fun v => execOf_takes hp _ (.bitwiseUint16 v) rfl rfl (lowBits_onBus .w16 v),
    fun v => execOf_takes hp _ (.bitwiseUint32 v) rfl rfl (lowBits_onBus .w32 v),
    fun v => execOf_takes hp _ (.bitwiseUint64 v) rfl rfl (lowBits_onBus .w64 v),
    fun v => execOf_takes hp _ (.bitwiseUint128 v) rfl rfl (lowBits_onBus .w128 v)⟩

/-- Settles O29: so are the five signed ones. -/
theorem bitwiseSignedTakesTheRequest : Obligations.BitwiseSignedTakesTheRequest := by
  intro s hp
  simp only [exec_eq_execOf]
  exact ⟨fun v => execOf_takes hp _ (.bitwiseInt8 v) rfl rfl (lowBits_onBus .w8 v),
    fun v => execOf_takes hp _ (.bitwiseInt16 v) rfl rfl (lowBits_onBus .w16 v),
    fun v => execOf_takes hp _ (.bitwiseInt32 v) rfl rfl (lowBits_onBus .w32 v),
    fun v => execOf_takes hp _ (.bitwiseInt64 v) rfl rfl (lowBits_onBus .w64 v),
    fun v => execOf_takes hp _ (.bitwiseInt128 v) rfl rfl (lowBits_onBus .w128 v)⟩

/-- Settles O30: the pointer-width ones are `accept-BW` at width PTR_W. -/
theorem bitwisePointerTakesTheRequest : Obligations.BitwisePointerTakesTheRequest := by
  intro s hp v
  simp only [exec_eq_execOf]
  have unsigned := fun c => execOf_takes hp c (.bitwiseUintptr v) rfl rfl (lowBits_ptr c v)
  have signed := fun c => execOf_takes hp c (.bitwiseIntptr v) rfl rfl (lowBits_ptr c v)
  exact ⟨unsigned _, signed _, fun c => ⟨unsigned c, signed c⟩⟩

/-- Settles O31: the five unsigned Parallel forms respond with the reversal. -/
theorem parallelUnsignedResponds : Obligations.ParallelUnsignedResponds := by
  intro s hp
  simp only [exec_eq_execOf]
  exact ⟨fun v => execOf_responds hp _ (.parallelUint8 v) nofun rfl (lowBits_onBus .w8 v),
    fun v => execOf_responds hp _ (.parallelUint16 v) nofun rfl (lowBits_onBus .w16 v),
    fun v => execOf_responds hp _ (.parallelUint32 v) nofun rfl (lowBits_onBus .w32 v),
    fun v => execOf_responds hp _ (.parallelUint64 v) nofun rfl (lowBits_onBus .w64 v),
    fun v => execOf_responds hp _ (.parallelUint128 v) nofun rfl (lowBits_onBus .w128 v)⟩

/-- Settles O32: so do the five signed ones. -/
theorem parallelSignedResponds : Obligations.ParallelSignedResponds := by
  intro s hp
  simp only [exec_eq_execOf]
  exact ⟨fun v => execOf_responds hp _ (.parallelInt8 v) nofun rfl (lowBits_onBus .w8 v),
    fun v => execOf_responds hp _ (.parallelInt16 v) nofun rfl (lowBits_onBus .w16 v),
    fun v => execOf_responds hp _ (.parallelInt32 v) nofun rfl (lowBits_onBus .w32 v),
    fun v => execOf_responds hp _ (.parallelInt64 v) nofun rfl (lowBits_onBus .w64 v),
    fun v => execOf_responds hp _ (.parallelInt128 v) nofun rfl (lowBits_onBus .w128 v)⟩

/-- Settles O33: the pointer-width ones respond with the reversal at width PTR_W. -/
theorem parallelPointerResponds : Obligations.ParallelPointerResponds := by
  intro s hp v
  simp only [exec_eq_execOf]
  have unsigned := fun c => execOf_responds hp c (.parallelUintptr v) nofun rfl (lowBits_ptr c v)
  have signed := fun c => execOf_responds hp c (.parallelIntptr v) nofun rfl (lowBits_ptr c v)
  exact ⟨unsigned _, signed _, fun c => ⟨unsigned c, signed c⟩⟩

/-- Settles O34: the five unsigned Lookup forms respond with the reversal. -/
theorem lookupUnsignedResponds : Obligations.LookupUnsignedResponds := by
  intro s hp
  simp only [exec_eq_execOf]
  exact ⟨fun v => execOf_responds hp _ (.lookupUint8 v) nofun rfl (lowBits_onBus .w8 v),
    fun v => execOf_responds hp _ (.lookupUint16 v) nofun rfl (lowBits_onBus .w16 v),
    fun v => execOf_responds hp _ (.lookupUint32 v) nofun rfl (lowBits_onBus .w32 v),
    fun v => execOf_responds hp _ (.lookupUint64 v) nofun rfl (lowBits_onBus .w64 v),
    fun v => execOf_responds hp _ (.lookupUint128 v) nofun rfl (lowBits_onBus .w128 v)⟩

/-- Settles O35: so do the five signed ones. -/
theorem lookupSignedResponds : Obligations.LookupSignedResponds := by
  intro s hp
  simp only [exec_eq_execOf]
  exact ⟨fun v => execOf_responds hp _ (.lookupInt8 v) nofun rfl (lowBits_onBus .w8 v),
    fun v => execOf_responds hp _ (.lookupInt16 v) nofun rfl (lowBits_onBus .w16 v),
    fun v => execOf_responds hp _ (.lookupInt32 v) nofun rfl (lowBits_onBus .w32 v),
    fun v => execOf_responds hp _ (.lookupInt64 v) nofun rfl (lowBits_onBus .w64 v),
    fun v => execOf_responds hp _ (.lookupInt128 v) nofun rfl (lowBits_onBus .w128 v)⟩

/-- Settles O36: the pointer-width ones respond with the reversal at width PTR_W. -/
theorem lookupPointerResponds : Obligations.LookupPointerResponds := by
  intro s hp v
  simp only [exec_eq_execOf]
  have unsigned := fun c => execOf_responds hp c (.lookupUintptr v) nofun rfl (lowBits_ptr c v)
  have signed := fun c => execOf_responds hp c (.lookupIntptr v) nofun rfl (lowBits_ptr c v)
  exact ⟨unsigned _, signed _, fun c => ⟨unsigned c, signed c⟩⟩

/-- Settles O38: an instruction offered to a BUSY block is held. -/
theorem noInstructionIsTakenWhileBusy : Obligations.NoInstructionIsTakenWhileBusy := by
  intro i s hp
  rw [exec_eq_execOf, execOf_busy hp]

end Sys2Proof.Machine
end

section
/-! One step of the block, row by row of R33. -/

namespace Sys2Proof.Machine

/-- The selectors of width 128 are refused without EN128 (R69). -/
theorem decodeOp_selector_w128 {c : Config} (hc : c.en128 = false) (a : Alg) (g : Signedness) :
    decodeOp c (Operation.mk a (.fixed .w128) g).selector = .error .width128 := by
  obtain ⟨halg, hwsel, -, -⟩ := selector_fields ⟨a, .fixed .w128, g⟩
  simp [decodeOp, halg, hwsel, hc]

/-- An idle block refuses them. -/
theorem stepOf_w128_of_not_en128 {c : Config} {s : State} {a : Alg} {g : Signedness} {d : Bus}
    (hw : s.wires = ⟨false, some ⟨(Operation.mk a (.fixed .w128) g).selector, d⟩⟩) (hp : s.phase = .idle)
    (hc : c.en128 = false) :
    stepOf c s = .refused (.reservedSelector .width128) :=
  stepOf_idle_of_error hw hp (decode_eq_error_iff.mpr (decodeOp_selector_w128 hc a g))

/-- With EN128 an idle block runs the operation with all of the bus as its operand. -/
theorem stepOf_w128_of_en128 {c : Config} {s : State} {a : Alg} {g : Signedness} {d : Bus}
    (hw : s.wires = ⟨false, some ⟨(Operation.mk a (.fixed .w128) g).selector, d⟩⟩) (hp : s.phase = .idle)
    (hc : c.en128 = true) :
    ∃ i : Instr, i.operation = ⟨a, .fixed .w128, g⟩ ∧ i.operandBus = d ∧ stepOf c s = execOf c i s.passPorts := by
  have hd := decodeOp_selector (Operation.inBuild_of_en128 hc ⟨a, .fixed .w128, g⟩)
  refine ⟨_, operation_ofOperation c _ d, ?_, stepOf_idle_of_ok hw hp (decode_eq_ok hd)⟩
  rw [operandBus_ofOperation]
  exact onBus_lowBits d.isLt

/-- Settles O37: the selectors of width 128 are reserved exactly when EN128 is false. -/
theorem width128IsRefusedWithoutEn128 : Obligations.Width128IsRefusedWithoutEn128 :=
  fun _ _ _ _ _ hp hw => ⟨stepOf_w128_of_not_en128 hw hp, stepOf_w128_of_en128 hw hp⟩

/-- Settles O39: taking a request moves the ports on past it. -/
theorem stepRunsTheDecodedInstruction : Obligations.StepRunsTheDecodedInstruction := by
  intro s q rest i hp hr hreq hd
  have hs : { s with reqIn := some q :: rest } = s := by rw [← hreq]
  have hw := State.wires_present q rest hr
  have hports := State.passPorts_present q rest hp hr
  rw [hs] at hw hports
  rw [step_eq_stepOf, stepOf_idle_of_ok hw hp hd, hports, exec_eq_execOf]

/-- Settles O40: decode refuses what its selector's decoder refuses. -/
theorem reservedRequestIsRefused : Obligations.ReservedRequestIsRefused := by
  intro s q why hp hw hd
  rw [step_eq_stepOf, stepOf_idle_of_error hw hp (decode_eq_error_iff.mpr hd)]

/-- Settles O42: with nothing presented both ports move on. -/
theorem idleStepChangesNothing : Obligations.IdleStepChangesNothing := by
  intro s hp hw
  have hreq : s.passPorts.reqIn = s.reqIn.tail := State.passPorts_of_none (by rw [hw])
  rw [step_eq_stepOf, stepOf_none hw hp, ← hreq]
  rfl

/-- Settles O43: the step is one pass of the loop. -/
theorem iterateStepShiftsOneBitAcross : Obligations.IterateStepShiftsOneBitAcross := by
  intro s hp hr hvp
  refine ⟨_, step_eq_next_iff.mpr (.iterate hp hr hvp), hp, reqReady_eq_false hp, rfl, rfl, rfl, ?_, ?_, rfl⟩
  · exact lowBits_onBus s.wcur (bwStep s.bw).r
  · exact lowBits_onBus s.wcur (bwStep s.bw).vp

/-- Settles O44: the step responds with the value after the loop. -/
theorem completeStepResponds : Obligations.CompleteStepResponds :=
  fun _ hp hr hvp => ⟨_, step_eq_next_iff.mpr (.complete hp hr hvp), rfl, rfl, rfl⟩

/-- A BUSY block has a next state, reset or no reset. -/
theorem exists_step_of_busy {s : State} (c : Config) (hp : s.phase = .busy) : ∃ t, StepsTo c s t := by
  cases hr : s.wires.rst with
  | true => exact ⟨_, .reset hr⟩
  | false => exact ⟨_, .advance hp hr⟩

/-- Settles O45: no step of a BUSY block uses up the request. -/
theorem requestIsHeldWhileBusy : Obligations.RequestIsHeldWhileBusy := by
  intro s q hp hq
  obtain ⟨t, h⟩ := exists_step_of_busy Config.build hp
  have hreq : t.reqIn = s.reqIn := h.reqIn.trans (State.passPorts_of_busy hp hq)
  refine ⟨t, step_eq_next_iff.mpr h, ?_, hreq, h.rstIn⟩
  exact (congrArg (·.headD none) hreq).trans hq

/-- Settles O46: `rst` makes the reset step, which moves `rst` on and leaves what is presented. -/
theorem resetWinsInAnyPhase : Obligations.ResetWinsInAnyPhase :=
  fun _ hr => ⟨_, step_eq_next_iff.mpr (.reset hr), rfl, rfl, rfl, rfl, fun _ hq => State.passPorts_of_rst hr hq,
    State.passPorts_of_none⟩

/-- Settles O47: no operation is in flight, and the registers hold 0. -/
theorem resetLeavesAnIdleBlock : Obligations.ResetLeavesAnIdleBlock :=
  ⟨rfl, rfl, rfl, fun _ => ⟨.of_idle rfl, Nat.two_pow_pos _, Nat.two_pow_pos _, Nat.two_pow_pos _,
    fun _ h => nomatch h⟩⟩

/-- Settles O48: an idle block behaves as its build says, whatever state it is in; so it does after any run. -/
theorem noStepChangesTheBuild : Obligations.NoStepChangesTheBuild := by
  intro c _ _ t _ hp hr a g d rest
  constructor
  · have h := pointerRequestIsTheFixedWidthRequest c t a g d rest 0 hp hr
    rwa [run_one, run_one] at h
  · have hw := State.wires_present ⟨(Operation.mk a (.fixed .w128) g).selector, d⟩ rest hr
    refine ⟨fun ⟨r, h⟩ => ?_, fun hc => ⟨_, stepOf_w128_of_not_en128 hw hp hc⟩⟩
    rw [← Bool.not_eq_true]
    intro hc
    obtain ⟨i, -, -, hrun⟩ := stepOf_w128_of_en128 hw hp hc
    obtain ⟨u, hu⟩ := execOf_next c i _
    exact nomatch h.symm.trans (hrun.trans hu)

end Sys2Proof.Machine
end

section
/-! The reversal as a rule about positions (spec 40_contract.md R80, R85, R94, R95): what it does to a number, to bit
operations, and which values it fixes. -/

namespace Sys2Proof.Machine

variable {n : Nat}

/-- A number is the sum of its bits by their weights. -/
theorem toNat_mod_two_pow_eq_sum (v : BitVec n) (k : Nat) :
    v.toNat % 2 ^ k = ∑ i ∈ Finset.range k, (v.getLsbD i).toNat * 2 ^ i := by
  induction k with
  | zero => simp [Nat.mod_one]
  | succ k ih =>
    have hbit : v.toNat / 2 ^ k % 2 = (v.getLsbD k).toNat := (Nat.toNat_testBit _ _).symm
    rw [Finset.sum_range_succ, ← ih, Nat.mod_pow_succ, hbit, Nat.mul_comm]

/-- The reversal as a number: every bit has the weight of the mirrored position (R80). -/
theorem toNat_rev (v : BitVec n) :
    (rev v).toNat = ∑ i ∈ Finset.range n, (v.getLsbD i).toNat * 2 ^ (n - 1 - i) := by
  rw [← BitVec.toNat_mod_cancel, toNat_mod_two_pow_eq_sum, ← Finset.sum_range_reflect]
  refine Finset.sum_congr rfl fun i hi => ?_
  have hlt : i < n := Finset.mem_range.mp hi
  rw [getLsbD_rev, show n - 1 - (n - 1 - i) = i by omega, decide_eq_true (by omega), Bool.true_and]

/-- The bits of the reversal inside the width. -/
theorem getLsbD_rev_of_lt (v : BitVec n) {i : Nat} (hi : i < n) : (rev v).getLsbD i = v.getLsbD (n - 1 - i) := by
  rw [getLsbD_rev, decide_eq_true hi, Bool.true_and]

/-- Settles O1: bit by bit, and summed up. -/
theorem reversalByBitsAndByNumber : Obligations.ReversalByBitsAndByNumber :=
  fun _ v => ⟨fun _ hi => getLsbD_rev_of_lt v hi, toNat_rev v⟩

/-- Settles O5: byte by byte the reversal is the mirrored byte reversed, in whichever order the two are done. -/
theorem reversalByteByByte : Obligations.ReversalByteByByte := by
  refine fun w v => ⟨fun k hk => ?_, eq_of_byteOf_eq fun k hk => ?_, eq_of_byteOf_eq fun k hk => ?_⟩
  · rw [byteOf_rev v (by omega), show w.bytes - 1 - (w.bytes - 1 - k) = k by omega]
  · rw [byteOf_rev v hk, byteOf_bswap _ hk, byteOf_ofBytes _ (by omega)]
  · rw [byteOf_rev v hk, byteOf_ofBytes _ hk, byteOf_bswap v hk]

/-- The reversal distributes over AND. -/
theorem rev_and (a b : BitVec n) : rev (a &&& b) = rev a &&& rev b := by
  apply BitVec.eq_of_getLsbD_eq
  intro i hi
  simp only [BitVec.getLsbD_and, getLsbD_rev_of_lt _ hi]

/-- The reversal distributes over OR. -/
theorem rev_or (a b : BitVec n) : rev (a ||| b) = rev a ||| rev b := by
  apply BitVec.eq_of_getLsbD_eq
  intro i hi
  simp only [BitVec.getLsbD_or, getLsbD_rev_of_lt _ hi]

/-- The reversal of the complement is the complement of the reversal. -/
theorem rev_not (a : BitVec n) : rev (~~~a) = ~~~rev a := by
  apply BitVec.eq_of_getLsbD_eq
  intro i hi
  simp only [getLsbD_rev_of_lt _ hi, BitVec.getLsbD_not, hi, show n - 1 - i < n by omega]

/-- A left shift is a right shift of the reversal. -/
theorem rev_shiftLeft (v : BitVec n) (k : Nat) : rev (v <<< k) = rev v >>> k := by
  apply BitVec.eq_of_getLsbD_eq
  intro i hi
  rw [BitVec.getLsbD_ushiftRight, getLsbD_rev_of_lt _ hi, getLsbD_rev, BitVec.getLsbD_shiftLeft,
    decide_eq_true (show n - 1 - i < n by omega), Bool.true_and, show n - 1 - (k + i) = n - 1 - i - k by omega,
    ← decide_not]
  congr 1
  exact decide_eq_decide.mpr (by omega)

/-- A right shift is a left shift of the reversal. -/
theorem rev_ushiftRight (v : BitVec n) (k : Nat) : rev (v >>> k) = rev v <<< k := by
  rw [← rev_rev (rev v <<< k), rev_shiftLeft, rev_rev]

/-- The mirrored positions are all positions, in the other order. -/
theorem map_mirror_range (n : Nat) : (List.range n).map (n - 1 - ·) = (List.range n).reverse := by
  rw [List.range_eq_range', List.reverse_range', Nat.zero_add, List.range_eq_range']

/-- The reversal keeps the number of 1 bits. -/
theorem countP_rev (v : BitVec n) :
    (List.range n).countP (fun i => (rev v).getLsbD i) = (List.range n).countP fun i => v.getLsbD i := by
  rw [← List.countP_reverse (l := List.range n) (p := fun i => v.getLsbD i), ← map_mirror_range, List.countP_map]
  exact List.countP_congr fun i hi => by
    rw [getLsbD_rev_of_lt v (List.mem_range.mp hi), Function.comp_apply]

/-- A single bit goes to the mirrored position. -/
theorem rev_twoPow {i : Nat} (hi : i < n) : rev (BitVec.twoPow n i) = BitVec.twoPow n (n - 1 - i) := by
  apply BitVec.eq_of_getLsbD_eq
  intro j hj
  rw [getLsbD_rev_of_lt _ hj, BitVec.getLsbD_twoPow, BitVec.getLsbD_twoPow, decide_eq_true hi,
    decide_eq_true (show n - 1 - i < n by omega)]
  exact congrArg _ (decide_eq_decide.mpr (by omega))

/-- A concatenation is reversed half by half. -/
theorem rev_append (a b : BitVec n) : rev (a ++ b) = rev b ++ rev a := by
  apply BitVec.eq_of_getLsbD_eq
  intro i hi
  rw [getLsbD_rev_of_lt _ hi, BitVec.getLsbD_append, BitVec.getLsbD_append]
  by_cases h : i < n
  · rw [if_neg (show ¬ n + n - 1 - i < n by omega), if_pos h, getLsbD_rev_of_lt a h,
      show n + n - 1 - i - n = n - 1 - i by omega]
  · rw [if_pos (show n + n - 1 - i < n by omega), if_neg h, getLsbD_rev_of_lt b (by omega),
      show n - 1 - (i - n) = n + n - 1 - i by omega]

/-- Settles O6: each of them is a rule about positions. -/
theorem reversalCommutesWithBitOperations : Obligations.ReversalCommutesWithBitOperations := by
  refine ⟨fun _ a b => ⟨rev_and a b, rev_or a b⟩, fun _ v k _ => ⟨rev_shiftLeft v k, rev_ushiftRight v k⟩,
    fun _ v => countP_rev v, fun w v z hz => ?_, fun _ _ hi => rev_twoPow hi, fun _ a b => rev_append a b⟩
  exact forall_congr' fun i => imp_congr_right fun hi => by rw [getLsbD_rev_of_lt v (by omega)]

/-- Zero is its own reversal. -/
theorem rev_zero : rev (0 : BitVec n) = 0 := by
  apply BitVec.eq_of_getLsbD_eq
  intro i hi
  simp [getLsbD_rev]

/-- So is all-ones, its complement. -/
theorem rev_allOnes : rev (BitVec.allOnes n) = BitVec.allOnes n := by
  rw [← BitVec.not_zero, rev_not]
  exact congrArg _ rev_zero

/-- The values that the reversal fixes are the palindromes. -/
theorem rev_eq_self_iff (v : BitVec n) : rev v = v ↔ ∀ i, i < n → v.getLsbD i = v.getLsbD (n - 1 - i) := by
  refine ⟨fun h i hi => ?_, fun h => BitVec.eq_of_getLsbD_eq fun i hi => ?_⟩
  · rw [← getLsbD_rev_of_lt v hi, h]
  · rw [getLsbD_rev_of_lt v hi, h i hi]

/-- The palindrome with the low half `x`. -/
def palindrome (n : Nat) (x : BitVec (n / 2)) : BitVec n := x.setWidth n ||| rev (x.setWidth n)

/-- It is one: the reversal exchanges the two terms. -/
theorem rev_palindrome (x : BitVec (n / 2)) : rev (palindrome n x) = palindrome n x := by
  rw [palindrome, rev_or, rev_rev, BitVec.or_comm]

/-- The low half of a palindrome is the half it was made of. -/
theorem setWidth_palindrome (x : BitVec (n / 2)) : (palindrome n x).setWidth (n / 2) = x := by
  apply BitVec.eq_of_getLsbD_eq
  intro i hi
  have hmirror : x.getLsbD (n - 1 - i) = false := BitVec.getLsbD_of_ge x _ (by omega)
  simp only [palindrome, BitVec.getLsbD_setWidth, BitVec.getLsbD_or, getLsbD_rev, hmirror, hi, decide_true,
    Bool.and_false, Bool.or_false, Bool.true_and]
  simp [show i < n by omega]

/-- A palindrome of an even number of bits is determined by its low half. -/
theorem palindrome_setWidth (hn : n % 2 = 0) {v : BitVec n} (hv : rev v = v) :
    palindrome n (v.setWidth (n / 2)) = v := by
  apply BitVec.eq_of_getLsbD_eq
  intro i hi
  have hmirror := (rev_eq_self_iff v).mp hv i hi
  simp only [palindrome, BitVec.getLsbD_or, getLsbD_rev, BitVec.getLsbD_setWidth, ← hmirror, hi,
    show n - 1 - i < n by omega, decide_true, Bool.true_and]
  rcases Nat.lt_or_ge i (n / 2) with h | h
  · simp [h]
  · simp [show n - 1 - i < n / 2 by omega]

/-- Palindromes and low halves are in bijection. -/
def palindromeEquiv (hn : n % 2 = 0) : { v : BitVec n // rev v = v } ≃ BitVec (n / 2) where
  toFun v := v.1.setWidth (n / 2)
  invFun x := ⟨palindrome n x, rev_palindrome x⟩
  left_inv v := Subtype.ext (palindrome_setWidth hn v.2)
  right_inv := setWidth_palindrome

/-- Settles O4: all three algorithms are the reversal, and a palindrome is a free choice of its low half. -/
theorem fixedPointsArePalindromes : Obligations.FixedPointsArePalindromes := by
  refine fun w => ⟨fun v hv => ?_, rev_eq_self_iff, ?_⟩
  · have hfix : rev v = v := by
      obtain rfl | rfl := hv
      · exact rev_zero
      · exact rev_allOnes
    simp only [bitwise_eq_rev, parallel_eq_rev, lookup_eq_rev, hfix, and_self]
  · exact Nat.card_eq_of_equiv_fin
      ((palindromeEquiv (by cases w <;> rfl)).trans BitVec.equivFin.toEquiv)

end Sys2Proof.Machine
end

section
/-! The masks and passes of Parallel, and the ROM of Lookup (spec 42_parallel.md R121, R124, R134, 20_memory.md R41,
R42). -/

namespace Sys2Proof.Machine

variable {n j : Nat}

/-- A mask that keeps the low halves, by the place of a position in its group. -/
theorem KeepsLowHalves.getLsbD_eq_decide {m : BitVec n} (hm : KeepsLowHalves j m) {i : Nat} (hi : i < n) :
    m.getLsbD i = decide (i % (2 * 2 ^ j) < 2 ^ j) := by
  rw [hm i hi, Bool.eq_iff_iff, decide_eq_true_iff, mod_lt_two_pow_iff_testBit, Bool.not_eq_true']

/-- Settles O8: the masks keep the low halves of the groups of 2, 4 and 8 bits. -/
theorem masksSelectTheLowGroups : Obligations.MasksSelectTheLowGroups := by
  refine fun w i hi => ⟨?_, keepsLowHalves_mask2.getLsbD_eq_decide hi, keepsLowHalves_mask4.getLsbD_eq_decide hi⟩
  rw [keepsLowHalves_mask1.getLsbD_eq_decide hi]
  exact decide_eq_decide.mpr (by omega)

/-- The bits that a pass shifts up stay inside the value. -/
theorem add_two_pow_lt {i : Nat} (hj : j < 3) (hi : i < 8 * n) (hlow : i.testBit j = false) : i + 2 ^ j < 8 * n := by
  rw [← xor_two_pow_of_testBit_false hlow]
  exact xor_two_pow_lt hj hi

/-- A value without bits at the k positions below the top is shifted up by k without loss. -/
theorem toNat_shiftLeft_of_room {v : BitVec n} {k : Nat} (h : ∀ i, i < n → n ≤ i + k → v.getLsbD i = false) :
    (v <<< k).toNat = v.toNat * 2 ^ k := by
  have hroom : v.toNat < 2 ^ (n - k) := by
    refine Nat.lt_pow_two_of_testBit _ fun i hi => ?_
    rcases Nat.lt_or_ge i n with hin | hin
    · exact h i hin (by omega)
    · exact BitVec.getLsbD_of_ge v i hin
  rw [BitVec.toNat_shiftLeft, Nat.shiftLeft_eq]
  refine Nat.mod_eq_of_lt ?_
  rcases Nat.le_total k n with hk | hk
  · calc
      v.toNat * 2 ^ k < 2 ^ (n - k) * 2 ^ k := Nat.mul_lt_mul_of_pos_right hroom (Nat.two_pow_pos k)
      _ = 2 ^ n := by rw [← Nat.pow_add, Nat.sub_add_cancel hk]
  · have hzero : v.toNat = 0 := by simpa [Nat.sub_eq_zero_of_le hk] using hroom
    simp [hzero]

/-- The left shift of a pass pushes nothing past the top. -/
theorem toNat_pass_left {m : BitVec (8 * n)} (hm : KeepsLowHalves j m) (hj : j < 3) (x : BitVec (8 * n)) :
    ((x &&& m) <<< 2 ^ j).toNat = (x &&& m).toNat * 2 ^ 2 ^ j := by
  refine toNat_shiftLeft_of_room fun i hi htop => ?_
  have hhigh : i.testBit j = true := by
    rw [← Bool.not_eq_false]
    intro hlow
    have := add_two_pow_lt hj hi hlow
    omega
  rw [BitVec.getLsbD_and, hm i hi, hhigh, Bool.not_true, Bool.and_false]

/-- The bits that a pass shifts up land outside the mask. -/
theorem pass_left_and_mask {m : BitVec n} (hm : KeepsLowHalves j m) (x : BitVec n) :
    ((x &&& m) <<< 2 ^ j) &&& m = 0 := by
  apply BitVec.eq_of_getLsbD_eq
  intro i hi
  rw [BitVec.getLsbD_and, BitVec.getLsbD_shiftLeft, BitVec.getLsbD_and, hm i hi]
  by_cases hle : 2 ^ j ≤ i
  · rw [hm (i - 2 ^ j) (Nat.sub_lt_of_lt hi), testBit_sub_two_pow hle]
    cases i.testBit j <;> simp
  · simp [show i < 2 ^ j by omega]

/-- The two terms of a pass have no position in common. -/
theorem pass_terms_disjoint {m : BitVec n} (hm : KeepsLowHalves j m) (x : BitVec n) :
    (x >>> 2 ^ j &&& m) &&& ((x &&& m) <<< 2 ^ j) = 0 := by
  rw [BitVec.and_assoc, BitVec.and_comm m, pass_left_and_mask hm]
  exact BitVec.and_zero

/-- Settles O10: what a pass shifts up stays inside the value and lands outside the mask. -/
theorem passLosesNothing : Obligations.PassLosesNothing := by
  intro w k m h x
  obtain ⟨j, hj, rfl, hm⟩ := exists_keepsLowHalves h
  refine ⟨rfl, ?_, toNat_pass_left hm hj x, pass_terms_disjoint hm x, ?_, pass_left_and_mask hm x⟩
  · have hadd := BitVec.add_eq_or_of_and_eq_zero _ _ (pass_terms_disjoint hm x)
    rw [swapPass, ← hadd]
    exact BitVec.toNat_add_of_and_eq_zero (pass_terms_disjoint hm x)
  · rw [BitVec.and_assoc, BitVec.and_self]

/-- Two passes flip two bits of every position number, in whichever order. -/
theorem swapPass_comm {j' : Nat} {m m' : BitVec (8 * n)} (hm : KeepsLowHalves j m) (hj : j < 3)
    (hm' : KeepsLowHalves j' m') (hj' : j' < 3) (x : BitVec (8 * n)) :
    swapPass (2 ^ j) m (swapPass (2 ^ j') m' x) = swapPass (2 ^ j') m' (swapPass (2 ^ j) m x) := by
  apply BitVec.eq_of_getLsbD_eq
  intro i hi
  rw [getLsbD_swapPass_xor hm _ hi, getLsbD_swapPass_xor hm' _ (xor_two_pow_lt hj hi),
    getLsbD_swapPass_xor hm' _ hi, getLsbD_swapPass_xor hm _ (xor_two_pow_lt hj' hi), Nat.xor_right_comm]

/-- A pass that works inside each byte commutes with the byte-swap. -/
theorem bswap_swapPass {s : Nat} {m : Byte} (hm : ∀ i, i < 8 → m.getLsbD i = true → i + s < 8) (x : BitVec (8 * n)) :
    bswap n (swapPass s (BitVec.replicate n m) x) = swapPass s (BitVec.replicate n m) (bswap n x) := by
  apply eq_of_byteOf_eq
  intro k hk
  rw [byteOf_bswap _ hk, byteOf_swapPass hm _ (by omega), byteOf_swapPass hm _ hk, byteOf_bswap _ hk]

/-- The first pass does: 0x55 keeps no top bit. -/
theorem bswap_swapPass_mask1 (x : BitVec (8 * n)) :
    bswap n (swapPass 1 (mask1 n) x) = swapPass 1 (mask1 n) (bswap n x) :=
  bswap_swapPass (by decide) x

/-- The second pass does: 0x33 keeps none of the top two bits. -/
theorem bswap_swapPass_mask2 (x : BitVec (8 * n)) :
    bswap n (swapPass 2 (mask2 n) x) = swapPass 2 (mask2 n) (bswap n x) :=
  bswap_swapPass (by decide) x

/-- The third pass does: 0x0F keeps none of the top four bits. -/
theorem bswap_swapPass_mask4 (x : BitVec (8 * n)) :
    bswap n (swapPass 4 (mask4 n) x) = swapPass 4 (mask4 n) (bswap n x) :=
  bswap_swapPass (by decide) x

/-- Settles O11: the passes flip bits of the position number below the byte, the byte-swap those above. -/
theorem threePassesReverseEachByte : Obligations.ThreePassesReverseEachByte := by
  refine fun w v => ⟨fun k hk => byteOf_swapPasses v hk, parallel_eq_rev v, ?_,
    swapPass_comm keepsLowHalves_mask1 (by decide) keepsLowHalves_mask2 (by decide) v,
    swapPass_comm keepsLowHalves_mask1 (by decide) keepsLowHalves_mask4 (by decide) v,
    swapPass_comm keepsLowHalves_mask2 (by decide) keepsLowHalves_mask4 (by decide) v,
    bswap_swapPass_mask1 v, bswap_swapPass_mask2 v, bswap_swapPass_mask4 v⟩
  rw [swapPasses, bswap_swapPass_mask4, bswap_swapPass_mask2, bswap_swapPass_mask1, swapPasses]

/-- Settles O12: the listing holds the reversals, and the reversal is its own inverse. -/
theorem romHoldsTheReversals : Obligations.RomHoldsTheReversals := by
  refine fun i => ⟨romRead_eq_rev i, fun j hj => ?_, ?_⟩
  · rw [romRead_eq_rev, getLsbD_rev_of_lt i hj]
  · rw [romRead_eq_rev, romRead_eq_rev, rev_rev]

/-- Cells at consecutive indices are populated at these indices and nowhere else. -/
theorem memRead_cellsFrom (bs : List Byte) (a i : Nat) :
    (memRead (cellsFrom a bs) i).isSome = true ↔ a ≤ i ∧ i < a + bs.length := by
  induction bs generalizing a with
  | nil => simp [cellsFrom, memRead]
  | cons b bs ih =>
    have hrest := ih (a + 1)
    simp only [memRead, cellsFrom, List.find?_cons, List.length_cons, Option.isSome_map] at hrest ⊢
    by_cases h : a = i
    · simp [h]
    · rw [beq_false_of_ne h]
      exact hrest.trans (by omega)

/-- The listing starts at index 0 and has 256 entries. -/
theorem rom_eq_cellsFrom : ∃ bs, rom = cellsFrom 0 bs ∧ bs.length = 256 := ⟨_, rfl, by decide +kernel⟩

/-- Settles O13: the cells of the ROM are at consecutive indices. -/
theorem romIsPopulatedExactlyBelow256 : Obligations.RomIsPopulatedExactlyBelow256 := by
  intro a
  obtain ⟨bs, hrom, hlen⟩ := rom_eq_cellsFrom
  rw [hrom, memRead_cellsFrom, hlen]
  omega

end Sys2Proof.Machine
end

section
/-! The signed reading (spec 00_scope.md R16, 44_signed_adapter.md R161, R163): it is the two's-complement reading of
the library, and complementing turns it around -1. -/

namespace Sys2Proof.Machine

variable {n : Nat}

/-- The formula of R16 is two's complement. -/
theorem sval_eq_toInt (v : BitVec n) : sval v = v.toInt := by
  rw [sval, uval, BitVec.toInt_eq_msb_cond]
  push_cast
  rfl

/-- The signed reading tells values apart. -/
theorem sval_inj {v u : BitVec n} : sval v = sval u ↔ v = u := by
  rw [sval_eq_toInt, sval_eq_toInt, BitVec.toInt_inj]

/-- It is negative exactly when the top bit is 1. -/
theorem sval_neg_iff (v : BitVec n) : sval v < 0 ↔ v.msb = true := by
  rw [sval_eq_toInt, BitVec.msb_eq_toInt, decide_eq_true_iff]

/-- The unsigned reading from the signed one. -/
theorem uval_eq_sval (v : BitVec n) : (uval v : Int) = if sval v < 0 then sval v + 2 ^ n else sval v := by
  simp only [sval_neg_iff]
  cases h : v.msb <;> simp [sval, h]

/-- The two readings are the same modulo 2^n. -/
theorem uval_eq_sval_emod (v : BitVec n) : (uval v : Int) = sval v % 2 ^ n := by
  have hlt : (uval v : Int) < 2 ^ n := by exact_mod_cast v.isLt
  have hmod : (uval v : Int) % 2 ^ n = uval v := Int.emod_eq_of_lt (Int.natCast_nonneg _) hlt
  cases h : v.msb <;> simp [sval, h, hmod]

/-- Every number below 2^n is the unsigned reading of one value. -/
theorem existsUnique_uval {k : Nat} (hk : k < 2 ^ n) : ∃! q : BitVec n, uval q = k :=
  ⟨BitVec.ofNat n k, Nat.mod_eq_of_lt hk, fun _ hq => BitVec.eq_of_toNat_eq (hq.trans (Nat.mod_eq_of_lt hk).symm)⟩

/-- Every number from -2^(n-1) to 2^(n-1)-1 is the signed reading of one value. -/
theorem existsUnique_sval (hn : 0 < n) {z : Int} (hlo : -2 ^ (n - 1) ≤ z) (hhi : z < 2 ^ (n - 1)) :
    ∃! q : BitVec n, sval q = z := by
  have hz : sval (BitVec.ofInt n z) = z := by rw [sval_eq_toInt, BitVec.toInt_ofInt_eq_self hn hlo hhi]
  exact ⟨_, hz, fun _ hq => sval_inj.mp (hq.trans hz.symm)⟩

/-- Settles O20: the reinterpretations are the identity on the bits, between the two readings. -/
theorem reinterpretationKeepsTheBits : Obligations.ReinterpretationKeepsTheBits := by
  refine fun w p => ⟨uval_eq_sval_emod p, uval_eq_sval p, rfl, rfl, ⟨?_, ?_, p.isLt⟩, fun _ => existsUnique_uval,
    fun _ => existsUnique_sval (bits_pos w)⟩
  · rw [sval_eq_toInt]
    exact BitVec.le_toInt p
  · rw [sval_eq_toInt]
    exact BitVec.toInt_lt

/-- Complementing every bit turns the signed reading around -1. -/
theorem sval_not (hn : 0 < n) (v : BitVec n) : sval (~~~v) = -1 - sval v := by
  have hlt : (v.toNat : Int) < 2 ^ n := by exact_mod_cast v.isLt
  have hnat : ((~~~v).toNat : Int) = 2 ^ n - 1 - v.toNat := by
    rw [BitVec.toNat_not]
    push_cast [Nat.sub_sub, Nat.cast_sub (show 1 + v.toNat ≤ 2 ^ n by have := v.isLt; omega)]
    ring
  rw [sval, sval, BitVec.msb_not, decide_eq_true hn, Bool.true_and, uval, uval, hnat]
  cases v.msb <;> simp only [Bool.not_false, Bool.not_true, Bool.false_eq_true, if_true, if_false] <;> ring

/-- The signed reading of the lowest bit alone. -/
theorem sval_twoPow_zero (hn : 1 < n) : sval (BitVec.twoPow n 0) = 1 := by
  rw [sval_eq_toInt, BitVec.toInt_twoPow, if_neg (by omega), if_neg (by omega), pow_zero]

/-- The signed reading of the top bit alone is the least value. -/
theorem sval_twoPow_top (hn : 0 < n) : sval (BitVec.twoPow n (n - 1)) = -2 ^ (n - 1) := by
  rw [sval_eq_toInt, BitVec.toInt_twoPow, if_neg (by omega), if_pos (by omega)]
  push_cast
  rfl

/-- The reversal takes 1 to the least value: it moves the bit from one end to the other. -/
theorem sval_rev_of_one (hn : 1 < n) {v : BitVec n} (h : sval v = 1) : sval (rev v) = -2 ^ (n - 1) := by
  obtain rfl : v = BitVec.twoPow n 0 := sval_inj.mp (h.trans (sval_twoPow_zero hn).symm)
  rw [rev_twoPow (by omega), Nat.sub_zero, sval_twoPow_top (by omega)]

/-- It takes the least value to 1. -/
theorem sval_rev_of_least (hn : 1 < n) {v : BitVec n} (h : sval v = -2 ^ (n - 1)) : sval (rev v) = 1 := by
  obtain rfl : v = BitVec.twoPow n (n - 1) := sval_inj.mp (h.trans (sval_twoPow_top (by omega)).symm)
  rw [rev_twoPow (by omega), Nat.sub_self, sval_twoPow_zero hn]

/-- It takes 0 to 0. -/
theorem sval_rev_of_zero {v : BitVec n} (h : sval v = 0) : sval (rev v) = 0 := by
  have hzero : sval (0 : BitVec n) = 0 := by simp [sval, uval]
  obtain rfl : v = 0 := sval_inj.mp (h.trans hzero.symm)
  rw [rev_zero, hzero]

/-- What the reversal does to a reading it does, turned around -1, to the reading turned around -1. -/
theorem sval_rev_not (hn : 0 < n) (v : BitVec n) : sval (rev v) = -1 - sval (rev (~~~v)) := by
  rw [rev_not, sval_not hn]
  ring

/-- The top bit of the reversal is the parity of the operand. -/
theorem msb_rev_iff (hn : 0 < n) (v : BitVec n) : (rev v).msb = true ↔ uval v % 2 = 1 := by
  rw [BitVec.msb_eq_getLsbD_last, getLsbD_rev_of_lt _ (by omega), Nat.sub_self]
  change v.toNat.testBit 0 = true ↔ _
  rw [Nat.testBit_zero, decide_eq_true_iff, uval]

/-- Settles O19: the sign is the parity mirrored, and the values of the second half are the complements of those of the
first. -/
theorem signedReadingOfTheResult : Obligations.SignedReadingOfTheResult := by
  intro w v
  have hpos := bits_pos w
  have hn : 1 < w.bits := by cases w <;> decide
  have hnot := sval_not hpos v
  have hrev := sval_rev_not hpos v
  refine ⟨(sval_neg_iff _).trans (msb_rev_iff hpos v), fun h => ?_, sval_rev_of_one hn, sval_rev_of_least hn,
    fun h => ?_, sval_rev_of_zero, fun h => ?_, fun h => ?_⟩
  · rw [← msb_rev_iff hpos, rev_rev]
    exact (sval_neg_iff v).mp h
  · rw [hrev, sval_rev_of_zero (by rw [hnot, h]; rfl)]
    rfl
  · rw [hrev, sval_rev_of_least hn (by rw [hnot, h]; ring)]
    rfl
  · rw [hrev, sval_rev_of_one hn (by rw [hnot, h]; rfl)]
    ring

end Sys2Proof.Machine
end

section
/-! The corner cases of Bitwise (spec 41_bitwise.md R105): each row of the table from the position of the highest 1 bit
of its operand and from the bits that R101 gives R at the exit of the loop. -/

namespace Sys2Proof.Machine

/-- The count of an operand written as a number. -/
theorem iters_ofNat {n v : Nat} (hv : v < 2 ^ n) : iters (BitVec.ofNat n v) = v.log2 := by
  rw [iters, uval, BitVec.toNat_ofNat, Nat.mod_eq_of_lt hv]

/-- One row: what R101 says of R and S at the exit, and the reversal, written in the bits of the numbers. -/
theorem cornerCase_row {w : Width} {v n r s result : Nat} (hv : v < 2 ^ w.bits) (hlog : v.log2 = n)
    (hs : w.bits - 1 - n = s) (hr : r < 2 ^ w.bits)
    (hrbits : ∀ i, i < w.bits → r.testBit i = if i < n then v.testBit (n - i) else v.testBit (i - n))
    (hresult : result < 2 ^ w.bits)
    (hresultbits : ∀ i, i < w.bits → result.testBit i = v.testBit (w.bits - 1 - i)) :
    iters (BitVec.ofNat w.bits v) = n ∧ uval (bwLoop w.bits (bwInit (BitVec.ofNat w.bits v))).r = r ∧
      (bwLoop w.bits (bwInit (BitVec.ofNat w.bits v))).s.toNat = s ∧
      uval (bitwise (BitVec.ofNat w.bits v)) = result := by
  have hn : iters (BitVec.ofNat w.bits v) = n := (iters_ofNat hv).trans hlog
  have hlt := iters_lt w (BitVec.ofNat w.bits v)
  obtain ⟨-, hsexit, hrexit⟩ := afterIterations_bwLoop w (BitVec.ofNat w.bits v)
  rw [hn] at hlt hsexit hrexit
  have hreg : (bwLoop w.bits (bwInit (BitVec.ofNat w.bits v))).r = BitVec.ofNat w.bits r := by
    apply BitVec.eq_of_getLsbD_eq
    intro i hi
    rw [hrexit i hi, BitVec.getLsbD_ofNat, BitVec.getLsbD_ofNat, BitVec.getLsbD_ofNat, hrbits i hi]
    simp [hi, show n - i < w.bits by omega, show i - n < w.bits by omega]
  have hrev : bitwise (BitVec.ofNat w.bits v) = BitVec.ofNat w.bits result := by
    rw [bitwise_eq_rev]
    apply BitVec.eq_of_getLsbD_eq
    intro i hi
    rw [getLsbD_rev_of_lt _ hi, BitVec.getLsbD_ofNat, BitVec.getLsbD_ofNat, hresultbits i hi]
    simp [hi, show w.bits - 1 - i < w.bits by omega]
  refine ⟨hn, ?_, hsexit.trans hs, ?_⟩
  · rw [hreg, uval, BitVec.toNat_ofNat, Nat.mod_eq_of_lt hr]
  · rw [hrev, uval, BitVec.toNat_ofNat, Nat.mod_eq_of_lt hresult]

/-- The highest 1 bit of a number of n bits that are all 1. -/
theorem log2_two_pow_sub_one {n : Nat} (hn : 0 < n) : (2 ^ n - 1).log2 = n - 1 := by
  obtain ⟨k, rfl⟩ : ∃ k, n = k + 1 := ⟨n - 1, by omega⟩
  have hpos := Nat.two_pow_pos k
  rw [Nat.log2_eq_iff (by omega), Nat.add_sub_cancel]
  omega

/-- The one bit of 1. -/
theorem testBit_one (i : Nat) : (1 : Nat).testBit i = decide (0 = i) := Nat.testBit_two_pow (n := 0)

/-- The one bit of 2. -/
theorem testBit_two (i : Nat) : (2 : Nat).testBit i = decide (1 = i) := Nat.testBit_two_pow (n := 1)

/-- The two bits of 5, what R holds at the exit for the operand 2. -/
theorem testBit_five (i : Nat) : (5 : Nat).testBit i = decide (0 = i ∨ 2 = i) := by
  rw [show (5 : Nat) = 2 ^ 0 ||| 2 ^ 2 from rfl, Nat.testBit_or, Nat.testBit_two_pow, Nat.testBit_two_pow,
    Bool.decide_or]

/-- The bits of 2^n - 2: all but the lowest. -/
theorem testBit_two_pow_sub_two {n : Nat} (hn : 0 < n) (i : Nat) :
    (2 ^ n - 2).testBit i = decide (0 < i ∧ i < n) := by
  obtain ⟨k, rfl⟩ : ∃ k, n = k + 1 := ⟨n - 1, by omega⟩
  have hshift : 2 ^ (k + 1) - 2 = (2 ^ k - 1) <<< 1 := by
    rw [Nat.shiftLeft_eq]
    omega
  rw [hshift, Nat.testBit_shiftLeft, Nat.testBit_two_pow_sub_one, ← Bool.decide_and]
  exact decide_eq_decide.mpr (by omega)

/-- Settles O18: the rows, in the order of the table. -/
theorem bitwiseCornerCases : Obligations.BitwiseCornerCases := by
  intro w row hrow
  have hw : 3 ≤ w.bits := by cases w <;> decide
  have hall : 2 * 2 ^ (w.bits - 1) = 2 ^ w.bits := mul_pow_sub_one (n := w.bits) (by omega) 2
  have htop : 2 * 2 ^ (w.bits - 2) = 2 ^ (w.bits - 1) := mul_pow_sub_one (n := w.bits - 1) (by omega) 2
  have hlow : 2 ^ 1 ≤ 2 ^ (w.bits - 2) := Nat.pow_le_pow_right (by decide) (by omega)
  simp only [List.mem_cons, List.not_mem_nil, or_false] at hrow
  obtain rfl | rfl | rfl | rfl | rfl | rfl := hrow
  · refine cornerCase_row (by omega) Nat.log2_zero rfl (by omega) (fun i hi => ?_) (by omega) fun i hi => ?_
    · simp only [Nat.zero_testBit, ite_self]
    · simp only [Nat.zero_testBit]
  · refine cornerCase_row (by omega) (Nat.log2_two_pow (n := 0)) rfl (by omega) (fun i hi => ?_) (by omega)
      fun i hi => ?_
    · rw [if_neg (Nat.not_lt_zero i), Nat.sub_zero]
    · rw [Nat.testBit_two_pow, testBit_one]
      exact decide_eq_decide.mpr (by omega)
  · refine cornerCase_row (by omega) (Nat.log2_two_pow (n := 1)) rfl (by omega) (fun i hi => ?_) (by omega)
      fun i hi => ?_
    · rw [testBit_five, testBit_two, testBit_two]
      split_ifs <;> exact decide_eq_decide.mpr (by omega)
    · rw [Nat.testBit_two_pow, testBit_two]
      exact decide_eq_decide.mpr (by omega)
  · refine cornerCase_row (by omega) Nat.log2_two_pow (Nat.sub_self _) (by omega) (fun i hi => ?_) (by omega)
      fun i hi => ?_
    · rw [testBit_one, Nat.testBit_two_pow, Nat.testBit_two_pow]
      split_ifs <;> exact decide_eq_decide.mpr (by omega)
    · rw [testBit_one, Nat.testBit_two_pow]
      exact decide_eq_decide.mpr (by omega)
  · refine cornerCase_row (by omega) (log2_two_pow_sub_one (by omega)) (Nat.sub_self _) (by omega) (fun i hi => ?_)
      (by omega) fun i hi => ?_
    · simp only [Nat.testBit_two_pow_sub_one]
      split_ifs <;> exact decide_eq_decide.mpr (by omega)
    · simp only [Nat.testBit_two_pow_sub_one]
      exact decide_eq_decide.mpr (by omega)
  · refine cornerCase_row (by omega) (log2_two_pow_sub_one (n := w.bits - 1) (by omega)) (by omega) (by omega)
      (fun i hi => ?_) (by omega) fun i hi => ?_
    · simp only [Nat.testBit_two_pow_sub_one]
      split_ifs <;> exact decide_eq_decide.mpr (by omega)
    · rw [testBit_two_pow_sub_two (by omega), Nat.testBit_two_pow_sub_one]
      exact decide_eq_decide.mpr (by omega)

end Sys2Proof.Machine
end
